-- ==== Sys2Proof/Word.lean ====
section
/-! DEFINITION. The byte and the byte sequence, the two plain types every rule of spec/ is written over
(rules R9, R10, R51), and the unit of time (R7, R35). -/

namespace Sys2Proof

/-- `u8`: "The byte is 8 bits everywhere" (R51). -/
abbrev Byte := BitVec 8

/-- `byte[]`: a finite sequence of `u8`, indexed from 0 (R10). -/
abbrev Bytes := List Byte

/-- A reading of the time base, and a duration, in the one time unit of R7 (log entry 5). -/
abbrev Time := Nat

end Sys2Proof
end

