-- ==== Sys2Proof/Config.lean ====
section
/-! DEFINITION. What an implementation of the block fixes (the parameters of R7, static by R8) and the free
values: constants with no body, about which nothing can be proved, one for each value the spec leaves open. -/

namespace Sys2Proof

/-- A CRC table: "256 entries of 8 bits each, indexed `0 .. 255`" (R23). -/
abbrev Table := Vector Byte 256

/-- `UINT_OVERFLOW` (R7, R132): what ENC_UINT does with a value that does not fit. -/
inductive UintPolicy where
  | fault
  | truncate
  deriving DecidableEq, Repr

/-- `F32_OVERFLOW` (R7, R139): what ENC_FLOAT does with a finite value beyond the binary32 range. -/
inductive FloatPolicy where
  | fault
  | infinity
  deriving DecidableEq, Repr

/-- `METER_CONSTANT_TYPE` (R232, decision D35): the open type of the meter-constant field. -/
inductive MeterType where
  | unsigned
  | float
  deriving DecidableEq, Repr

/-- The parameters of the block (R7). `Machine.State` holds one `Config`, so that every statement about
every state is a statement about every instantiation; no step changes it (R8, R37). -/
structure Config where
  /-- `TABLE_HI`, a read-only memory (R23) -/
  tableHi : Table
  /-- `TABLE_LO`, a read-only memory (R23) -/
  tableLo : Table
  /-- `CRC_STRICT` (R174) -/
  crcStrict : Bool
  /-- `OPC_READBACK_ERROR` (R98) -/
  opcReadbackError : Byte
  /-- `POLL_INTERVAL`, timing only (R211) -/
  pollInterval : Time
  /-- `READ_GAP`, timing only (R193, R212) -/
  readGap : Time
  /-- `RX_CHUNK_MAX`: most bytes one reader read returns (R193) -/
  rxChunkMax : Nat
  /-- `RX_BUF_MAX`; `none` is "unbounded" (R199) -/
  rxBufMax : Option Nat
  /-- `MAX_PAYLOAD` (R165) -/
  maxPayload : Nat
  /-- `UINT_OVERFLOW` (R132) -/
  uintOverflow : UintPolicy
  /-- `F32_OVERFLOW` (R139) -/
  f32Overflow : FloatPolicy
  /-- `METER_CONSTANT_TYPE` (R232; decision D35) -/
  meterType : MeterType
  deriving DecidableEq, Repr

/-- The bounds R7 puts on the parameters. -/
def Config.wellFormed (c : Config) : Bool :=
  decide (0 < c.pollInterval) && decide (0 < c.readGap) && decide (1 ≤ c.rxChunkMax) &&
    decide (c.maxPayload ≤ 2 ^ 32 - 3)

/-! Free values. The first argument is `State.draws`, a counter every drawing step advances. -/

/-- `STATUS` after RESET (R39). -/
opaque Config.freeStatus : Nat → BitVec 4
/-- `INFO` after RESET (R39). -/
opaque Config.freeInfo : Nat → BitVec 4
/-- `OUT_BUF` after RESET and after an operation that does not write it (R21). -/
opaque Config.freeOutBuf : Nat → Bytes
/-- `RES_VALUE` after RESET and after an operation that does not write it (R21). -/
opaque Config.freeValue : Nat → BitVec 64
/-- `RES_CRC_LOW` after RESET and after an operation that does not write it (R21). -/
opaque Config.freeCrcLow : Nat → Byte
/-- `RES_CRC_HIGH` after RESET and after an operation that does not write it (R21). -/
opaque Config.freeCrcHigh : Nat → Byte
/-- `RES_OPCODE` after RESET and after an operation that does not write it (R21). -/
opaque Config.freeOpcode : Nat → BitVec 16
/-- `RES_ERRCODE` after RESET and after an operation that does not write it (R21). -/
opaque Config.freeErrCode : Nat → Byte
/-- `t0` after RESET (R39). -/
opaque Config.freeT0 : Nat → Time
/-- `timeout_latched` after RESET (R39). -/
opaque Config.freeTimeout : Nat → Time
/-- `acc` once `rx_fault` is set (R199). -/
opaque Config.freeAcc : Nat → Bytes
/-- The bits a binary32 NaN result is made of (R139 (d)); the second argument numbers the fields of one
SERIALIZE. -/
opaque Config.freeNan32 : Nat → Nat → BitVec 32
/-- The bits a binary64 NaN result is made of (R142); the second argument numbers the fields of one
DESERIALIZE. -/
opaque Config.freeNan64 : Nat → Nat → BitVec 64
/-- Which agent takes the next step when nothing is scheduled: "the block fixes no order between agents" (R66). -/
opaque Config.freeAgent : Nat → BitVec 3
/-- How many bytes more than one `PortRead` returns if it can (R193). -/
opaque Config.freeReadCount : Nat → Nat
/-- The first byte the environment delivers (R193). -/
opaque Config.freeArrivalHead : Nat → Byte
/-- The further bytes the environment delivers (R193). -/
opaque Config.freeArrivalTail : Nat → Bytes
/-- How much more than one time unit passes at a TICK (R194). -/
opaque Config.freeTick : Nat → Time

end Sys2Proof
end

