-- ==== Sys2Proof/Machine/Float.lean ====
section
/-! DEFINITION. IEEE-754 patterns (R89), the narrowing of an f64 to an f32 (R139) and the widening of an f16 or
f32 to an f64 (R142). A finite pattern's magnitude is computed exactly, as a natural number of units of
`2 ^ -1074`, the smallest binary64 subnormal; rounding happens once, on that number. -/

namespace Sys2Proof.Machine

/-- An IEEE-754 binary interchange format: exponent width and fraction width in bits (R89). -/
structure Format where
  ebits : Nat
  fbits : Nat
  deriving DecidableEq, Repr

/-- "binary16 = 1 sign bit, 5 exponent bits (bias 15), 10 fraction bits" (R89). -/
def binary16 : Format := ⟨5, 10⟩

/-- "binary32 = 1 sign, 8 exponent (bias 127), 23 fraction" (R89). -/
def binary32 : Format := ⟨8, 23⟩

/-- "binary64 = 1 sign, 11 exponent (bias 1023), 52 fraction" (R89). -/
def binary64 : Format := ⟨11, 52⟩

/-- The bias, `2 ^ (ebits - 1) - 1` (R89). -/
def formatBias (f : Format) : Nat := 2 ^ (f.ebits - 1) - 1

/-- The all-ones exponent (R89). -/
def formatExpMax (f : Format) : Nat := 2 ^ f.ebits - 1

/-- The sign bit of a pattern, 0 or 1 (R89). -/
def fieldSign (f : Format) (p : Nat) : Nat := p / 2 ^ (f.ebits + f.fbits) % 2

/-- The exponent field of a pattern (R89). -/
def fieldExp (f : Format) (p : Nat) : Nat := p / 2 ^ f.fbits % 2 ^ f.ebits

/-- The fraction field of a pattern (R89). -/
def fieldFrac (f : Format) (p : Nat) : Nat := p % 2 ^ f.fbits

/-- "an all-ones exponent ... with non-zero fraction a NaN" (R89). -/
def isNan (f : Format) (p : Nat) : Bool := fieldExp f p == formatExpMax f && fieldFrac f p != 0

/-- "an all-ones exponent with zero fraction is a signed infinity" (R89). -/
def isInf (f : Format) (p : Nat) : Bool := fieldExp f p == formatExpMax f && fieldFrac f p == 0

/-- The magnitude of a finite pattern in units of `2 ^ -1074`, exactly: a zero or subnormal is
`2^(1-bias) * (fraction / 2^fbits)`, any other finite value `2^(e-bias) * (1 + fraction / 2^fbits)` (R89). -/
def magnitude (f : Format) (p : Nat) : Nat :=
  let unit := 2 ^ (1075 - formatBias f - f.fbits)
  if fieldExp f p = 0 then fieldFrac f p * unit
  else (2 ^ f.fbits + fieldFrac f p) * 2 ^ (fieldExp f p - 1) * unit

/-- `m / 2^sh` rounded to the nearest integer, ties to even (R139). -/
def roundNearestEven (m sh : Nat) : Nat :=
  let q := m / 2 ^ sh
  let rest := 2 * (m % 2 ^ sh)
  if rest < 2 ^ sh then q
  else if 2 ^ sh < rest then q + 1
  else q + q % 2

/-- The exponent, as a power of two times `2 ^ -1074`, of the last fraction bit of the binary32 values around
the magnitude `m`: 23 places below the leading bit, but never below the binary32 subnormals' `2 ^ -149`. -/
def lastPlace32 (m : Nat) : Nat := max (Nat.log2 m - 23) 925

/-- The pattern, sign aside, of the binary32 value nearest to the magnitude `m` if the exponent were unbounded
above (R139 (b)): a carry out of the fraction moves on into the exponent. -/
def nearest32 (m : Nat) : Nat :=
  (lastPlace32 m - 925) * 2 ^ 23 + roundNearestEven m (lastPlace32 m)

/-- The pattern of binary32 infinity, sign aside. -/
def infinity32 : Nat := 0x7F800000

/-- The pattern of binary64 infinity, sign aside. -/
def infinity64 : Nat := 0x7FF0000000000000

/-- A binary32 NaN made of free bits: sign and fraction are the bits', but a zero fraction, which would be an
infinity, becomes 1 (R139 (d); log entry 8). -/
def nan32 (bits : BitVec 32) : BitVec 32 :=
  let p := bits ||| 0x7F800000#32
  if isNan binary32 p.toNat then p else p ||| 1#32

/-- A binary64 NaN made of free bits (R142; log entry 8). -/
def nan64 (bits : BitVec 64) : BitVec 64 :=
  let p := bits ||| 0x7FF0000000000000#64
  if isNan binary64 p.toNat then p else p ||| 1#64

/-- `narrow32` (R139): the binary32 pattern for the f64 pattern `x`, or `none` where `F32_OVERFLOW = fault`
refuses a finite value that rounds out of range. `bits` are the free bits of a NaN result. -/
def narrow32 (policy : FloatPolicy) (bits : BitVec 32) (x : BitVec 64) : Option (BitVec 32) :=
  let sign := fieldSign binary64 x.toNat * 2 ^ 31
  if isNan binary64 x.toNat then some (nan32 bits)
  else if isInf binary64 x.toNat then some (BitVec.ofNat 32 (sign + infinity32))
  else
    let p := nearest32 (magnitude binary64 x.toNat)
    if p < infinity32 then some (BitVec.ofNat 32 (sign + p))
    else
      match policy with
      | .fault => none
      | .infinity => some (BitVec.ofNat 32 (sign + infinity32))

/-- The binary64 pattern, sign aside, of a magnitude that is 0 or at least `2 ^ 52` units (a binary64 normal),
which every binary16 and binary32 magnitude is; exact for these (R142). -/
def pattern64 (m : Nat) : Nat :=
  if m = 0 then 0
  else (Nat.log2 m - 52) * 2 ^ 52 + m / 2 ^ (Nat.log2 m - 52)

/-- `widen64` (R142) of a pattern of format `f`, binary16 or binary32. `bits` are the free bits of a NaN
result. -/
def widen64 (f : Format) (bits : BitVec 64) (p : Nat) : BitVec 64 :=
  let sign := fieldSign f p * 2 ^ 63
  if isNan f p then nan64 bits
  else if isInf f p then BitVec.ofNat 64 (sign + infinity64)
  else BitVec.ofNat 64 (sign + pattern64 (magnitude f p))

end Sys2Proof.Machine
end

