-- ==== Sys2Proof/Syntax.lean ====
section
/-! DEFINITION. The syntax: one constructor of `Instr` for each of the 45 rows of spec/opcode_table.json.
The block is no processor (R2): its "instructions" are the sixteen `OP_SEL` codes (R95, R99), the four agent
steps (R96), the RESET event (R290), the three pseudo-operations (R102), the two wire frame formats (R80), the
seven protocol opcode constants (R98) and the twelve status codes (R97). The operands of a requested operation
are no part of its code: they stand on the operand ports (R21), which `Machine.State` holds. -/

namespace Sys2Proof

/-- The sub-causes of `EncodingError` that `INFO` reports (R252). -/
inductive SubCause where
  | unsupportedWidth
  | sliceLength
  | valueOutOfRange
  deriving DecidableEq, Repr

/-- The outcome an operation reports in `STATUS` and `INFO` (R97, R251, R252). -/
inductive Status where
  | ok
  | frameEmpty
  | frameInvalidMarkers
  | frameLengthMismatch
  | frameCrcMismatch
  | encodingError (c : SubCause)
  | registerLengthMismatch
  | rangeError
  | transactionTimeout
  | busy
  | rxOverflow
  | illegalOperation
  deriving DecidableEq, Repr

/-- The three known register sets of the boundary (R232, R233, R234). -/
inductive SetId where
  | testConfig
  | sampling
  | errorSet
  deriving DecidableEq, Repr

/-- One constructor per row of spec/opcode_table.json. -/
inductive Instr where
  -- OP_SEL rows (R95): the operands are on the ports of R21
  | crc16
  | encUint
  | decUint
  | encFloat
  | decFloat
  | decBool
  | encBool
  | frameEnc
  | frameDec
  | start
  | transaction
  | reservedB
  | reservedC
  | reservedD
  | reservedE
  | reservedF
  -- AGENT_STEP rows (R96); the argument is the choice R193 and R194 leave to the environment
  /-- the reader's step; `k` is the count of bytes the environment lets `PortRead` return (R193) -/
  | rdStep (k : Nat)
  | txnPoll
  /-- the environment delivers the bytes `e` (R193) -/
  | envRx (e : Bytes)
  /-- the time base advances by `d` (R194) -/
  | tick (d : Time)
  -- EVENT row (R290)
  | reset
  -- PSEUDO rows (R102)
  | exchange
  | serialize (set : SetId)
  | deserialize (set : SetId)
  -- WIRE_FRAME rows (R81, R82)
  | frameCmd
  | frameRsp (opLow opHigh err : Byte) (payload : Bytes)
  -- FRAME_OPCODE rows (R98)
  | opcLogin
  | opcLogout
  | opcTestCommand
  | opcOnlineAdjust
  | opcReadbackSampling
  | opcStopTest
  | opcReadbackError
  -- STATUS rows (R97); `EncodingError` carries the sub-cause `INFO` reports (R252)
  | statusOk
  | statusFrameEmpty
  | statusFrameInvalidMarkers
  | statusFrameLengthMismatch
  | statusFrameCrcMismatch
  | statusEncodingError (c : SubCause)
  | statusRegisterLengthMismatch
  | statusRangeError
  | statusTransactionTimeout
  | statusBusy
  | statusRxOverflow
  | statusIllegalOperation
  deriving DecidableEq, Repr

end Sys2Proof
end

