-- ==== Sys2Proof/Machine/State.lean ====
section
/-! DEFINITION. The state: every piece of state spec/10_state.md names (R20 to R40), the register sets of the
boundary (R230 to R234), and four fields of the model's own (`exchanging`, `toDecode`, `schedule`,
`draws`). -/

namespace Sys2Proof.Machine

/-- The four states of the Serial Transaction Engine (R30). -/
inductive TxnState where
  | idle
  | reading
  | dataReady
  | timedOut
  deriving DecidableEq, Repr

/-- The operand ports the host writes before a request (R21). -/
structure Operands where
  /-- `ARG_VALUE`: a u64, an f64 bit pattern, or 1 bit -/
  value : BitVec 64
  /-- `ARG_WIDTH`: "any natural number the host supplies" -/
  width : Nat
  /-- `ARG_OPCODE` -/
  opcode : BitVec 16
  /-- `ARG_TIMEOUT` -/
  timeout : Time
  /-- `IN_BUF` -/
  inBuf : Bytes
  deriving DecidableEq, Repr

/-- The result ports the block writes at completion (R21). -/
structure Results where
  /-- `STATUS` (R97) -/
  status : BitVec 4
  /-- `INFO` (R252) -/
  info : BitVec 4
  /-- `OUT_BUF` -/
  outBuf : Bytes
  /-- `RES_VALUE`: a u64, an f64 bit pattern, or 1 bit -/
  value : BitVec 64
  /-- `RES_CRC_LOW` -/
  crcLow : Byte
  /-- `RES_CRC_HIGH` -/
  crcHigh : Byte
  /-- `RES_OPCODE` -/
  opcode : BitVec 16
  /-- `RES_ERRCODE` -/
  errCode : Byte
  deriving DecidableEq, Repr

/-- The Serial Transaction Engine (R27 to R32, R40). -/
structure Engine where
  /-- R27 -/
  started : Bool
  /-- the accumulation buffer (R28) -/
  acc : Bytes
  /-- the "latest received buffer" slot (R29) -/
  latest : Bytes
  /-- R30 -/
  txnState : TxnState
  /-- the single-transaction-in-flight guard (R31) -/
  busy : Bool
  /-- R32 -/
  t0 : Time
  /-- `timeout_latched` (R32) -/
  timeoutLatched : Time
  /-- R40 -/
  rxFault : Bool
  deriving DecidableEq, Repr

/-- The environment the block touches but does not own (R33 to R35). -/
structure Environment where
  /-- `tx_stream` (R33) -/
  txStream : Bytes
  /-- `rx_pending` (R34) -/
  rxPending : Bytes
  /-- R35 -/
  now : Time
  deriving DecidableEq, Repr

/-- The declared type of a register (R230): "{UnsignedInt(width), Float(width), Bool}". -/
inductive RegType where
  | uint (width : Nat)
  | float (width : Nat)
  | bool
  deriving DecidableEq, Repr

/-- A register of a register set (R230): its declared type, which fixes its width, and its current value, a
u64, an f64 bit pattern or 1 bit. Its name has no effect on any byte (R230) and is left out (log entry 20). -/
structure Reg where
  ty : RegType
  value : BitVec 64
  deriving DecidableEq, Repr

/-- "An ordered sequence of Registers whose field order is the wire contract" (R231). -/
abbrev RegSet := List Reg

/-- What the host, the facade and the environment do next, in the one total order of R67. -/
inductive Event where
  /-- the host writes the operand ports (R21) -/
  | drive (a : Operands)
  /-- the boundary assigns current values to a register set, in declared order (R230) -/
  | assign (set : SetId) (values : List (BitVec 64))
  /-- the host requests the operation with this `OP_SEL` code (R95) -/
  | request (c : BitVec 4)
  /-- the facade takes up the protocol opcode with this byte (R98) -/
  | opcode (b : Byte)
  /-- a step that has no code: an agent's, RESET, a pseudo-operation, a frame on the wire, a status (R96, R102) -/
  | act (i : Instr)
  /-- the host goes on with an EXCHANGE whose buffer it has received: it requests FRAME_DEC of it (R102) -/
  | resume
  deriving DecidableEq, Repr

structure State where
  /-- `OP_SEL` (R21, R95) -/
  opSel : BitVec 4
  /-- the operand ports (R21) -/
  args : Operands
  /-- the result ports (R21) -/
  res : Results
  /-- `crcHigh`, a working register of the CRC engine (R22) -/
  crcHigh : Byte
  /-- `crcLow`, a working register of the CRC engine (R22) -/
  crcLow : Byte
  /-- `pos`, the parse cursor of FRAME_DEC (R24) -/
  pos : Nat
  /-- the Serial Transaction Engine (R27 to R32, R40) -/
  eng : Engine
  /-- the serial port's streams and the time base (R33 to R35) -/
  env : Environment
  /-- the static configuration, the ROM tables among it (R7, R23, R37) -/
  cfg : Config
  /-- the outbound test-configuration set (R232) -/
  testConfig : RegSet
  /-- the inbound sampling set (R233) -/
  sampling : RegSet
  /-- the inbound error set (R234) -/
  errorSet : RegSet
  /-- the model's own: the host's EXCHANGE (R102) waits for the pending transaction -/
  exchanging : Bool
  /-- the model's own: the buffers the host's EXCHANGEs have received and that it has still to give to FRAME_DEC, in
  the order received (R102; log entry 17) -/
  toDecode : List Bytes
  /-- the model's own: the steps that come next, in order (R66, R67); it is the host's and the environment's,
  no part of the block (log entry 6) -/
  schedule : List Event
  /-- the model's own: how many times free values have been drawn; it selects the next ones -/
  draws : Nat
  deriving DecidableEq, Repr

/-- Why the machine stops with a fault: it never does, so the type has no constructor. Every failure of the block is a
result that `STATUS` and `INFO` report (R250, R267), and the spec has no step that ends the machine. Safe. -/
inductive Fault where
  deriving DecidableEq, Repr

/-- Why a code has no meaning. -/
inductive Refusal where
  /-- An instruction that has no meaning in the model; no arm of `exec` answers it. Safe. -/
  | notModelled (mnemonic : String)
  /-- Raised by `step` alone, when the scheduled opcode byte is none of the seven constants of R98 (log entry 28).
  Safe: the facade reaches every other opcode by driving `ARG_OPCODE` (R99 (4)). -/
  | noSuchCode (b : Byte)
  deriving DecidableEq, Repr

/-- The fixed layout of a register set: its fields' types, in declared order (R231 to R234). The ten fields of
the test-configuration set are power-selector, element-selector, voltage-range code, voltage, current,
power-factor, power-factor-unit, frequency, meter-constant, calibration-cycle (R232). -/
def layout (m : MeterType) : SetId → List RegType
  | .testConfig =>
    [.uint 1, .uint 1, .uint 1, .float 4, .float 4, .float 4, .uint 1, .float 4,
      match m with
      | .unsigned => .uint 4
      | .float => .float 4,
      .uint 2]
  | .sampling => List.replicate 20 (.float 4)
  | .errorSet => [.bool, .float 4, .float 4, .float 4]

/-- A set whose every current value is 0. -/
def zeroSet (m : MeterType) (id : SetId) : RegSet := (layout m id).map fun t => ⟨t, 0⟩

/-- The block right after reset (R39, R291). Log entry 3 names the values R39 leaves unspecified. -/
def State.reset : State where
  opSel := 0
  args := { value := 0, width := 0, opcode := 0, timeout := 0, inBuf := [] }
  res := { status := 0, info := 0, outBuf := [], value := 0, crcLow := 0, crcHigh := 0, opcode := 0, errCode := 0 }
  crcHigh := 0xFF
  crcLow := 0xFF
  pos := 0
  eng :=
    { started := false, acc := [], latest := [], txnState := .idle, busy := false, t0 := 0, timeoutLatched := 0,
      rxFault := false }
  env := { txStream := [], rxPending := [], now := 0 }
  cfg := initialConfig
  testConfig := zeroSet .unsigned .testConfig
  sampling := zeroSet .unsigned .sampling
  errorSet := zeroSet .unsigned .errorSet
  exchanging := false
  toDecode := []
  schedule := []
  draws := 0

end Sys2Proof.Machine
end

