-- ==== Sys2Proof/Machine/Flags.lean ====
section
/-! DEFINITION. Status codes (R97, R251, R252) and the state bits and predicates that act as flags (R36). The
block has no arithmetic condition codes (R36). -/

namespace Sys2Proof.Machine

/-- The `STATUS` code of an outcome (R97). -/
def statusCode : Status → BitVec 4
  | .ok => 0x0
  | .frameEmpty => 0x1
  | .frameInvalidMarkers => 0x2
  | .frameLengthMismatch => 0x3
  | .frameCrcMismatch => 0x4
  | .encodingError _ => 0x5
  | .registerLengthMismatch => 0x6
  | .rangeError => 0x7
  | .transactionTimeout => 0x8
  | .busy => 0x9
  | .rxOverflow => 0xA
  | .illegalOperation => 0xF

/-- The `INFO` code of an outcome: the sub-cause of `EncodingError`, `0x0` with every other status (R252). -/
def statusInfo : Status → BitVec 4
  | .encodingError .unsupportedWidth => 0x1
  | .encodingError .sliceLength => 0x2
  | .encodingError .valueOutOfRange => 0x3
  | .ok => 0x0
  | .frameEmpty => 0x0
  | .frameInvalidMarkers => 0x0
  | .frameLengthMismatch => 0x0
  | .frameCrcMismatch => 0x0
  | .registerLengthMismatch => 0x0
  | .rangeError => 0x0
  | .transactionTimeout => 0x0
  | .busy => 0x0
  | .rxOverflow => 0x0
  | .illegalOperation => 0x0

/-- `data_ready = (len(latest) > 0)` (R36). -/
def dataReady (s : State) : Bool := !s.eng.latest.isEmpty

/-- RD_STEP is "enabled exactly when `started = 1` and `rx_fault = 0`" (R196). -/
def readerEnabled (s : State) : Bool := s.eng.started && !s.eng.rxFault

/-- TXN_POLL is "enabled exactly when `busy = 1`" (R201). -/
def pollEnabled (s : State) : Bool := s.eng.busy

/-- `now - t0 >= timeout_latched` (R203). -/
def deadlinePassed (s : State) : Bool := decide (s.eng.timeoutLatched ≤ s.env.now - s.eng.t0)

end Sys2Proof.Machine
end

