-- ==== Sys2Proof/Machine/Bytes.lean ====
section
/-! DEFINITION. Byte sequences: little-endian layout and assembly (R52, R53) and the subsequences of R10. -/

namespace Sys2Proof.Machine

/-- Byte `i` of the `w` bytes is `(v div 256^i) mod 256` (R53). -/
def leBytes : (w : Nat) → (v : Nat) → Bytes
  | 0, _ => []
  | w + 1, v => BitVec.ofNat 8 v :: leBytes w (v / 256)

/-- `sum over i of b[i] * 256^i` (R53). -/
def leValue : Bytes → Nat
  | [] => 0
  | b :: rest => b.toNat + 256 * leValue rest

/-- `s[a ..< b]` (R10). -/
def slice (s : Bytes) (a b : Nat) : Bytes := (s.drop a).take (b - a)

/-- `s[i]` (R10); every use stands behind a test that `i < len(s)`. -/
def byteAt (s : Bytes) (i : Nat) : Byte := s.getD i 0

end Sys2Proof.Machine
end

