-- ==== Sys2Proof/Machine/Operands.lean ====
section
/-! DEFINITION. The operand forms: how an operation reads its operand ports (R21), which widths are legal for
which operation (R130), and which result ports an operation writes (R95). -/

namespace Sys2Proof.Machine

/-- `ARG_VALUE` read as a `u64` (R131). -/
def argUint (s : State) : Nat := s.args.value.toNat

/-- `ARG_VALUE` read as an f64 bit pattern (R137). -/
def argFloat (s : State) : BitVec 64 := s.args.value

/-- `ARG_VALUE` read as one bit, bit 0 (R146; log entry 9). -/
def argBool (s : State) : Bool := s.args.value.getLsbD 0

/-- ENC_UINT and DEC_UINT: `{2, 4}` (R130). -/
def uintWidth (w : Nat) : Bool := w == 2 || w == 4

/-- ENC_FLOAT: `{4, 8}` (R130). -/
def encFloatWidth (w : Nat) : Bool := w == 4 || w == 8

/-- DEC_FLOAT: `{2, 4, 8}` (R130). -/
def decFloatWidth (w : Nat) : Bool := w == 2 || w == 4 || w == 8

/-- A boolean as a byte: false is `0x00`, true is `0x01` (R90, R146). -/
def boolByte (t : Bool) : Byte := if t then 0x01 else 0x00

/-- A boolean as a 64-bit port value (R145). -/
def boolValue (t : Bool) : BitVec 64 := if t then 1 else 0

/-- The result ports an operation writes beside `STATUS` and `INFO`; `none` is a port it does not write. -/
structure Written where
  outBuf : Option Bytes := none
  value : Option (BitVec 64) := none
  crcLow : Option Byte := none
  crcHigh : Option Byte := none
  opcode : Option (BitVec 16) := none
  errCode : Option Byte := none
  deriving DecidableEq, Repr

end Sys2Proof.Machine
end

