-- ==== Sys2Proof/Machine/Ops.lean ====
section
/-! DEFINITION. The named operations over the state: the updates of its fields, completing an operation and
raising a failure (R267, the block's "trap entry"; there is nothing to return from, R268), and the port
primitives (R192, R193). -/

namespace Sys2Proof.Machine

/-- The outcome of a step of this machine. -/
abbrev Answer := Host.Outcome State Fault Refusal

/-! Field updates. -/

def State.setOpSel (s : State) (c : BitVec 4) : State := { s with opSel := c }

def State.setArgs (s : State) (a : Operands) : State := { s with args := a }

def State.setInBuf (s : State) (b : Bytes) : State := { s with args := { s.args with inBuf := b } }

def State.setArgOpcode (s : State) (o : BitVec 16) : State := { s with args := { s.args with opcode := o } }

def State.setRes (s : State) (r : Results) : State := { s with res := r }

def State.setCrc (s : State) (high low : Byte) : State := { s with crcHigh := high, crcLow := low }

def State.setPos (s : State) (p : Nat) : State := { s with pos := p }

def State.setEng (s : State) (e : Engine) : State := { s with eng := e }

def State.setEnv (s : State) (e : Environment) : State := { s with env := e }

def State.setExchanging (s : State) (b : Bool) : State := { s with exchanging := b }

def State.setToDecode (s : State) (bs : List Bytes) : State := { s with toDecode := bs }

def State.setSchedule (s : State) (es : List Event) : State := { s with schedule := es }

/-- The free values at `draws` are used up. -/
def State.draw (s : State) : State := { s with draws := s.draws + 1 }

/-- The current registers of a set (R230). -/
def State.regSet (s : State) : SetId → RegSet
  | .testConfig => s.testConfig
  | .sampling => s.sampling
  | .errorSet => s.errorSet

def State.setRegSet (s : State) (id : SetId) (r : RegSet) : State :=
  match id with
  | .testConfig => { s with testConfig := r }
  | .sampling => { s with sampling := r }
  | .errorSet => { s with errorSet := r }

/-! Completion. -/

/-- The result ports once an operation has completed: `STATUS` and `INFO` as the outcome has them (R97, R252),
the ports the operation writes, and a free value in each port it does not write: "every result port is
unspecified after reset and after an operation that does not write it" (R21; log entry 7). -/
def completed (n : Nat) (st : Status) (w : Written) : Results where
  status := statusCode st
  info := statusInfo st
  outBuf := w.outBuf.getD (Config.freeOutBuf n)
  value := w.value.getD (Config.freeValue n)
  crcLow := w.crcLow.getD (Config.freeCrcLow n)
  crcHigh := w.crcHigh.getD (Config.freeCrcHigh n)
  opcode := w.opcode.getD (Config.freeOpcode n)
  errCode := w.errCode.getD (Config.freeErrCode n)

/-- An operation completes: it reports its one status and its results (R97, R21). -/
def State.complete (s : State) (st : Status) (w : Written) : State := (s.setRes (completed s.draws st w)).draw

/-- An operation fails: "`STATUS` and `INFO` are written with the kind's codes; no other result port is written;
no state of the block changes" (R267), and control goes nowhere (R250). -/
def State.raise (s : State) (st : Status) : State := s.complete st {}

/-- A status is delivered on its own, as the facade may do with a kind the block never raises (R257): `STATUS`
and `INFO` are written (R267) and nothing else. -/
def State.report (s : State) (st : Status) : State :=
  s.setRes { s.res with status := statusCode st, info := statusInfo st }

/-! The serial port. -/

/-- `PortWrite(bytes)`: `tx_stream <- tx_stream ++ bytes` (R192). -/
def State.portWrite (s : State) (bytes : Bytes) : State :=
  s.setEnv { s.env with txStream := s.env.txStream ++ bytes }

/-- The bytes `e` arrive at the port: `rx_pending <- rx_pending ++ e` (R193). -/
def State.arrive (s : State) (e : Bytes) : State :=
  s.setEnv { s.env with rxPending := s.env.rxPending ++ e }

/-- How many bytes `PortRead` returns when the environment asks for `k`: some count from 1 to
`min(len(rx_pending), RX_CHUNK_MAX)`, every one of which some `k` gives, and 0 when nothing is pending (R193). -/
def readCount (cfg : Config) (pending : Bytes) (k : Nat) : Nat :=
  min pending.length (max 1 (min k cfg.rxChunkMax))

/-- `PortRead()`: the bytes returned and what stays pending (R193). -/
def portRead (cfg : Config) (pending : Bytes) (k : Nat) : Bytes × Bytes :=
  (pending.take (readCount cfg pending k), pending.drop (readCount cfg pending k))

end Sys2Proof.Machine
end

