-- ==== Sys2Proof/Machine/Codec.lean ====
section
/-! DEFINITION. The Primitive Codec (spec/41_primitive_codec.md): each operation as a function of its operands
(R25), and the six instructions that read the operands from the ports and report the result. -/

namespace Sys2Proof.Machine

/-- ENC_UINT (R131, R132). -/
def encodeUint (policy : UintPolicy) (v w : Nat) : Except SubCause Bytes :=
  if !uintWidth w then .error .unsupportedWidth
  else if v < 256 ^ w then .ok (leBytes w v)
  else
    match policy with
    | .fault => .error .valueOutOfRange
    | .truncate => .ok (leBytes w v)

/-- DEC_UINT (R134): the width is tested first, the slice length second (R130). -/
def decodeUint (b : Bytes) (w : Nat) : Except SubCause (BitVec 64) :=
  if !uintWidth w then .error .unsupportedWidth
  else if b.length ≠ w then .error .sliceLength
  else .ok (BitVec.ofNat 64 (leValue b))

/-- ENC_FLOAT (R137, R138, R139). At width 8 the operand's own pattern is laid out, NaN or not (decision D8). -/
def encodeFloat (policy : FloatPolicy) (bits : BitVec 32) (x : BitVec 64) (w : Nat) : Except SubCause Bytes :=
  if !encFloatWidth w then .error .unsupportedWidth
  else if w = 8 then .ok (leBytes 8 x.toNat)
  else
    match narrow32 policy bits x with
    | some p => .ok (leBytes 4 p.toNat)
    | none => .error .valueOutOfRange

/-- DEC_FLOAT (R141, R142). At width 8 the result is the pattern itself, NaN or not (decision D8). -/
def decodeFloat (bits : BitVec 64) (b : Bytes) (w : Nat) : Except SubCause (BitVec 64) :=
  if !decFloatWidth w then .error .unsupportedWidth
  else if b.length ≠ w then .error .sliceLength
  else if w = 8 then .ok (BitVec.ofNat 64 (leValue b))
  else if w = 4 then .ok (widen64 binary32 bits (leValue b))
  else .ok (widen64 binary16 bits (leValue b))

/-- DEC_BOOL (R145): "value is `false` iff the single byte equals 0". -/
def decodeBool (b : Bytes) : Except SubCause Bool :=
  if b.length ≠ 1 then .error .sliceLength
  else .ok (byteAt b 0 != 0x00)

/-- ENC_BOOL (R146). -/
def encodeBool (t : Bool) : Bytes := [boolByte t]

/-- An operation whose result goes to `OUT_BUF`: it reports the bytes, or the sub-cause (R147). -/
def State.completeBytes (s : State) : Except SubCause Bytes → State
  | .ok b => s.complete .ok { outBuf := some b }
  | .error c => s.raise (.encodingError c)

/-- An operation whose result goes to `RES_VALUE`: it reports the value, or the sub-cause (R147). -/
def State.completeValue (s : State) : Except SubCause (BitVec 64) → State
  | .ok v => s.complete .ok { value := some v }
  | .error c => s.raise (.encodingError c)

/-- ENC_UINT (R131). -/
def execEncUint (s : State) : Answer :=
  .next (s.completeBytes (encodeUint s.cfg.uintOverflow (argUint s) s.args.width))

/-- DEC_UINT (R134). -/
def execDecUint (s : State) : Answer :=
  .next (s.completeValue (decodeUint s.args.inBuf s.args.width))

/-- ENC_FLOAT (R137). -/
def execEncFloat (s : State) : Answer :=
  .next (s.completeBytes
    (encodeFloat s.cfg.f32Overflow (Config.freeNan32 s.draws 0) (argFloat s) s.args.width))

/-- DEC_FLOAT (R141). -/
def execDecFloat (s : State) : Answer :=
  .next (s.completeValue (decodeFloat (Config.freeNan64 s.draws 0) s.args.inBuf s.args.width))

/-- DEC_BOOL (R145). -/
def execDecBool (s : State) : Answer :=
  .next (s.completeValue ((decodeBool s.args.inBuf).map boolValue))

/-- ENC_BOOL (R146). -/
def execEncBool (s : State) : Answer :=
  .next (s.completeBytes (.ok (encodeBool (argBool s))))

end Sys2Proof.Machine
end

