-- ==== Sys2Proof/Machine/Crc.lean ====
section
/-! DEFINITION. The CRC-16 Engine (spec/40_crc16.md): the byte step, the computation, and CRC16. -/

namespace Sys2Proof.Machine

/-- The pair of CRC working registers (R22). -/
structure CrcPair where
  high : Byte
  low : Byte
  deriving DecidableEq, Repr

/-- `CRC_SEED_HIGH`, `CRC_SEED_LOW` (R7, R111). -/
def crcSeed : CrcPair := ⟨0xFF, 0xFF⟩

/-- CRC_STEP (R112): both new values are computed from the old ones. -/
def crcStep (cfg : Config) (c : CrcPair) (b : Byte) : CrcPair :=
  let index := c.high ^^^ b
  ⟨c.low ^^^ cfg.tableHi.get index.toFin, cfg.tableLo.get index.toFin⟩

/-- The registers after the message `m`, in index order, starting from `c` (R111 step 2). -/
def crcFrom (cfg : Config) (c : CrcPair) (m : Bytes) : CrcPair := m.foldl (crcStep cfg) c

/-- The registers after the message `m` from the seed; `low` is the operation's `lowByte` and `high` its
`highByte` (R113; log entry 11). -/
def crc16 (cfg : Config) (m : Bytes) : CrcPair := crcFrom cfg crcSeed m

/-- The two CRC bytes in wire order: "first `lowByte`, then `highByte`" (R85). -/
def crcWire (c : CrcPair) : Bytes := [c.low, c.high]

/-- CRC16 runs the engine's working registers over a message (R111, R22). -/
def State.runCrc (s : State) (m : Bytes) : State := s.setCrc (crc16 s.cfg m).high (crc16 s.cfg m).low

/-- CRC16 (R111). -/
def execCrc16 (s : State) : Answer :=
  let c := crc16 s.cfg s.args.inBuf
  .next ((s.runCrc s.args.inBuf).complete .ok { crcLow := some c.low, crcHigh := some c.high })

end Sys2Proof.Machine
end

