-- ==== Sys2Proof/Machine/Frame.lean ====
section
/-! DEFINITION. The Frame Codec (spec/42_frame_codec.md) and the two wire formats (R81, R82): the layouts, the
decoder's tests and fields, FRAME_ENC and FRAME_DEC. -/

namespace Sys2Proof.Machine

/-- `SOI` (R7). -/
def soi : Byte := 0x7E

/-- `EOI` (R7). -/
def eoi : Byte := 0xFF

/-- `CMD_OPCODE_BYTE1`, "the constant second opcode byte of a command frame" (R7). -/
def cmdOpcodeByte1 : Byte := 0x00

/-- `LEN_WIDTH` (R7). -/
def lenWidth : Nat := 4

/-- The low byte of a `u16` (R10). -/
def lowByte (o : BitVec 16) : Byte := o.setWidth 8

/-- A frame around a body: marker, the body's length, the body, its CRC, marker (R81, R82, R83, R85). -/
def frameAround (cfg : Config) (body : Bytes) : Bytes :=
  [soi] ++ leBytes lenWidth body.length ++ body ++ crcWire (crc16 cfg body) ++ [eoi]

/-- The body of a command frame (R162, R163). -/
def commandBody (opLow : Byte) (payload : Bytes) : Bytes := [opLow, cmdOpcodeByte1] ++ payload

/-- The body of a response frame (R82). -/
def responseBody (opLow opHigh err : Byte) (payload : Bytes) : Bytes := [opLow, opHigh, err] ++ payload

/-- The command frame of R81. -/
def commandFrame (cfg : Config) (opLow : Byte) (payload : Bytes) : Bytes :=
  frameAround cfg (commandBody opLow payload)

/-- The response frame of R82. -/
def responseFrame (cfg : Config) (opLow opHigh err : Byte) (payload : Bytes) : Bytes :=
  frameAround cfg (responseBody opLow opHigh err payload)

/-- The longest payload FRAME_ENC accepts: `MAX_PAYLOAD`, which may be set lower than `2^32 - 3` but not higher
(R165). -/
def payloadBound (cfg : Config) : Nat := min cfg.maxPayload (2 ^ 32 - 3)

/-- FRAME_ENC (R161): a payload that is too long is refused in step 1, before anything changes; otherwise the
CRC engine runs over the body (step 3) and the frame is reported. -/
def State.frameEnc (s : State) : State :=
  if payloadBound s.cfg < s.args.inBuf.length then s.raise (.encodingError .valueOutOfRange)
  else
    (s.runCrc (commandBody (lowByte s.args.opcode) s.args.inBuf)).complete .ok
      { outBuf := some (commandFrame s.cfg (lowByte s.args.opcode) s.args.inBuf) }

/-- `declaredLen` (R167 step 4, R170). -/
def declaredLen (buf : Bytes) : Nat := leValue (slice buf 1 5)

/-- The bytes the length field counts and the CRC covers (R174). -/
def frameBody (buf : Bytes) : Bytes := slice buf 5 (5 + declaredLen buf)

/-- The received CRC pair (R167 step 7). -/
def receivedCrc (buf : Bytes) : CrcPair :=
  ⟨byteAt buf (6 + declaredLen buf), byteAt buf (5 + declaredLen buf)⟩

/-- Steps 1 to 6 of FRAME_DEC, which decide on markers and length alone (R168 to R172, R176). -/
def framingStatus (buf : Bytes) : Status :=
  if buf.length = 0 then .frameEmpty
  else if byteAt buf 0 ≠ soi ∨ byteAt buf (buf.length - 1) ≠ eoi then .frameInvalidMarkers
  else if buf.length < 5 then .frameLengthMismatch
  else if declaredLen buf + 3 ≠ buf.length - 5 then .frameLengthMismatch
  else if declaredLen buf < 3 then .frameLengthMismatch
  else .ok

/-- All of FRAME_DEC's tests, in order (R176); step 8 is made only with `CRC_STRICT = 1` (R174). -/
def frameStatus (cfg : Config) (buf : Bytes) : Status :=
  if framingStatus buf ≠ .ok then framingStatus buf
  else if cfg.crcStrict ∧ crc16 cfg (frameBody buf) ≠ receivedCrc buf then .frameCrcMismatch
  else .ok

/-- The parse cursor where FRAME_DEC ends (R24, R170): 0 before anything is consumed, 5 when the length field
has been read and a length test fails, the buffer's length when every field has been consumed. -/
def frameCursor (buf : Bytes) : Nat :=
  if framingStatus buf = .ok then buf.length
  else if framingStatus buf = .frameLengthMismatch ∧ 5 ≤ buf.length then 5
  else 0

/-- The result ports of a frame that passes (R173, R175): the CRC returned is the received pair. -/
def frameFields (buf : Bytes) : Written where
  opcode := some (byteAt buf 6 ++ byteAt buf 5)
  errCode := some (byteAt buf 7)
  outBuf := some (slice buf 8 (5 + declaredLen buf))
  crcLow := some (receivedCrc buf).low
  crcHigh := some (receivedCrc buf).high

/-- The CRC engine runs exactly when FRAME_DEC reaches step 8 in strict mode (R174). -/
def State.checkCrc (s : State) (buf : Bytes) : State :=
  if s.cfg.crcStrict ∧ framingStatus buf = .ok then s.runCrc (frameBody buf) else s

/-- FRAME_DEC (R167). The working registers `pos`, `crcHigh` and `crcLow` keep what its steps leave in them
(log entry 10); every other piece of state is unchanged (R177). -/
def State.frameDec (s : State) : State :=
  let buf := s.args.inBuf
  let parsed := (s.setPos (frameCursor buf)).checkCrc buf
  if frameStatus s.cfg buf = .ok then parsed.complete .ok (frameFields buf)
  else parsed.raise (frameStatus s.cfg buf)

/-- FRAME_ENC (R161). -/
def execFrameEnc (s : State) : Answer := .next s.frameEnc

/-- FRAME_DEC (R167). -/
def execFrameDec (s : State) : Answer := .next s.frameDec

end Sys2Proof.Machine
end

