-- ==== Sys2Proof/Machine/Registers.lean ====
section
/-! DEFINITION. The register sets of the boundary (spec/44_register_sets.md): SERIALIZE and DESERIALIZE, which
expand into one primitive-codec operation per field (R102 (2), R235, R236). -/

namespace Sys2Proof.Machine

/-- The byte width of a declared type (R230). -/
def typeWidth : RegType → Nat
  | .uint w => w
  | .float w => w
  | .bool => 1

/-- `sum(widths)` (R236). -/
def setWidth : RegSet → Nat
  | [] => 0
  | r :: rest => typeWidth r.ty + setWidth rest

/-- A 1-byte unsigned field on SERIALIZE: "the field's byte is the value, which must be in `0 .. 255` (a larger
value is treated as rule R132 treats one)" (R238). -/
def encodeOneByte (policy : UintPolicy) (v : Nat) : Except SubCause Bytes :=
  if v < 256 then .ok (leBytes 1 v)
  else
    match policy with
    | .fault => .error .valueOutOfRange
    | .truncate => .ok (leBytes 1 v)

/-- The encode of one field, by its declared type (R235, R238); a Bool by ENC_BOOL (R146; log entry 19). `n` is
the draw and `i` the field's number, for a NaN's free bits. -/
def encodeField (cfg : Config) (n i : Nat) (r : Reg) : Except SubCause Bytes :=
  match r.ty with
  | .uint w =>
    if w = 1 then encodeOneByte cfg.uintOverflow r.value.toNat
    else encodeUint cfg.uintOverflow r.value.toNat w
  | .float w => encodeFloat cfg.f32Overflow (Config.freeNan32 n i) r.value w
  | .bool => .ok (encodeBool (r.value.getLsbD 0))

/-- "for each field in declared order, encode its current value with the declared width, concatenate"; the first
failure is the failure of the whole (R235). -/
def serializeFrom (cfg : Config) (n : Nat) : (i : Nat) → RegSet → Except SubCause Bytes
  | _, [] => .ok []
  | i, r :: rest =>
    match encodeField cfg n i r with
    | .error c => .error c
    | .ok b =>
      match serializeFrom cfg n (i + 1) rest with
      | .error c => .error c
      | .ok more => .ok (b ++ more)

/-- The decode of one chunk, by its declared type (R236, R238). -/
def decodeField (n i : Nat) (t : RegType) (chunk : Bytes) : Except SubCause (BitVec 64) :=
  match t with
  | .uint w =>
    if w = 1 then .ok (BitVec.ofNat 64 (leValue chunk))
    else decodeUint chunk w
  | .float w => decodeFloat (Config.freeNan64 n i) chunk w
  | .bool => (decodeBool chunk).map boolValue

/-- "slices the payload into consecutive chunks of each field's width, in declared order, and decodes each chunk
per its declared type, assigning into that field's current value" (R236). -/
def deserializeFrom (n : Nat) : (i : Nat) → RegSet → Bytes → Except SubCause RegSet
  | _, [], _ => .ok []
  | i, r :: rest, payload =>
    match decodeField n i r.ty (payload.take (typeWidth r.ty)) with
    | .error c => .error c
    | .ok v =>
      match deserializeFrom n (i + 1) rest (payload.drop (typeWidth r.ty)) with
      | .error c => .error c
      | .ok more => .ok (⟨r.ty, v⟩ :: more)

/-- The boundary assigns current values to a set's registers in declared order; the declared types stay, and a
register with no value given keeps its own (R230). -/
def assignValues : RegSet → List (BitVec 64) → RegSet
  | [], _ => []
  | r :: rest, [] => r :: rest
  | r :: rest, v :: vs => ⟨r.ty, v⟩ :: assignValues rest vs

/-- SERIALIZE(set) (R235): the bytes are reported, or the failing field's `EncodingError`. That the whole
concatenation stands in `OUT_BUF`, and not the last field's bytes alone, is the model's choice (log entry 32). -/
def execSerialize (set : SetId) (s : State) : Answer :=
  .next (s.completeBytes (serializeFrom s.cfg s.draws 0 (s.regSet set)))

/-- DESERIALIZE(set, payload) (R236): the length is tested first, and on `RegisterError::LengthMismatch` no field is
assigned. That the payload stands in `IN_BUF`, and that every result port but `STATUS` and `INFO` holds a free value
afterwards (`RES_VALUE` too, which the last field's decode would write), is the model's choice (log entry 32). -/
def execDeserialize (set : SetId) (s : State) : Answer :=
  if s.args.inBuf.length ≠ setWidth (s.regSet set) then .next (s.raise .registerLengthMismatch)
  else
    match deserializeFrom s.draws 0 (s.regSet set) s.args.inBuf with
    | .ok regs => .next ((s.setRegSet set regs).complete .ok {})
    | .error c => .next (s.raise (.encodingError c))

/-- Which register set an opcode's payload represents, as far as the source says (R98, R232 to R234): the
test-command's command payload, and the payloads of the two readback responses. -/
def payloadSet (cfg : Config) (opLow : Byte) : Option SetId :=
  if opLow = 0xD0 then some .testConfig
  else if opLow = 0xD2 then some .sampling
  else if opLow = cfg.opcReadbackError then some .errorSet
  else none

end Sys2Proof.Machine
end

