-- ==== Sys2Proof/Machine/Reserved.lean ====
section
/-! DEFINITION. The reserved `OP_SEL` codes `0xB .. 0xF`: "a request with one of them changes no state and
reports `STATUS = IllegalOperation`" (R99 (1), R263). -/

namespace Sys2Proof.Machine

/-- `OP_SEL = 0xB` (R99). -/
def execReservedB (s : State) : Answer := .next (s.raise .illegalOperation)

/-- `OP_SEL = 0xC` (R99). -/
def execReservedC (s : State) : Answer := .next (s.raise .illegalOperation)

/-- `OP_SEL = 0xD` (R99). -/
def execReservedD (s : State) : Answer := .next (s.raise .illegalOperation)

/-- `OP_SEL = 0xE` (R99). -/
def execReservedE (s : State) : Answer := .next (s.raise .illegalOperation)

/-- `OP_SEL = 0xF` (R99). -/
def execReservedF (s : State) : Answer := .next (s.raise .illegalOperation)

end Sys2Proof.Machine
end

