-- ==== Sys2Proof/Machine/Transaction.lean ====
section
/-! DEFINITION. The Serial Transaction Engine (spec/43_transaction.md): START, TRANSACTION, and the steps of the
reader, the pending transaction and the environment. Each is one atomic step (R62, R63, R64). -/

namespace Sys2Proof.Machine

/-- START (R195): `started <- 1`, whether or not it was 1 before. -/
def execStart (s : State) : Answer :=
  .next ((s.setEng { s.eng with started := true }).complete .ok {})

/-- A TRANSACTION request can be accepted: the two tests of R200, in its order, decide otherwise. -/
def acceptable (s : State) : Bool := !s.eng.rxFault && !s.eng.busy

/-- Steps 3 to 5 of R200: the guard is set, the bytes are written, time and timeout are latched. `latest` is
not cleared (R207), and no status is reported before the transaction ends (R200, R206). -/
def State.accept (s : State) : State :=
  (s.portWrite s.args.inBuf).setEng
    { s.eng with busy := true, t0 := s.env.now, timeoutLatched := s.args.timeout, txnState := .reading }

/-- TRANSACTION, the accepting step or its refusal (R200). -/
def State.transaction (s : State) : State :=
  if s.eng.rxFault then s.raise .rxOverflow
  else if s.eng.busy then s.raise .busy
  else s.accept

/-- TRANSACTION (R200). -/
def execTransaction (s : State) : Answer := .next s.transaction

/-- The transaction's atomic take of the slot (R62, R202). -/
def State.takeLatest (s : State) : State :=
  (s.setEng { s.eng with latest := [], busy := false, txnState := .dataReady }).complete .ok
    { outBuf := some s.eng.latest }

/-- The transaction ends without data (R203). -/
def State.timeOut (s : State) : State :=
  (s.setEng { s.eng with busy := false, txnState := .timedOut }).complete .transactionTimeout { outBuf := some [] }

/-- TXN_POLL (R201): data, then the deadline, else wait (R204). While it is not enabled no such step is taken
and nothing changes (log entry 12). -/
def execTxnPoll (s : State) : Answer :=
  if pollEnabled s then
    if dataReady s then .next s.takeLatest
    else if deadlinePassed s then .next s.timeOut
    else .next s
  else .next s

/-- An append that would make `acc` longer than `RX_BUF_MAX` (R199); never with the parameter unbounded. -/
def overflows (s : State) (r : Bytes) : Bool :=
  match s.cfg.rxBufMax with
  | none => false
  | some m => decide (m < s.eng.acc.length + r.length)

/-- RD_STEP with a non-empty read (R197), or, where the bound is exceeded, the sticky fault, after which `acc`
is unspecified: a free value (R199). -/
def State.accumulate (s : State) (r : Bytes) : State :=
  if overflows s r then (s.setEng { s.eng with rxFault := true, acc := Config.freeAcc s.draws }).draw
  else s.setEng { s.eng with acc := s.eng.acc ++ r }

/-- RD_STEP with an empty read (R198): a silence gap publishes a non-empty accumulation buffer, overwriting the
slot. -/
def State.publish (s : State) : State :=
  if s.eng.acc.isEmpty then s else s.setEng { s.eng with latest := s.eng.acc, acc := [] }

/-- RD_STEP (R196): one `PortRead`, for which the environment picks a count (R193), and what it leads to. While
the reader is not enabled it takes no step and nothing changes (log entry 12). -/
def execRdStep (k : Nat) (s : State) : Answer :=
  if readerEnabled s then
    let read := portRead s.cfg s.env.rxPending k
    let rest := s.setEnv { s.env with rxPending := read.2 }
    if read.1.isEmpty then .next rest.publish else .next (rest.accumulate read.1)
  else .next s

/-- ENV_RX (R193). -/
def execEnvRx (e : Bytes) (s : State) : Answer := .next (s.arrive e)

/-- TICK (R194). -/
def execTick (d : Time) (s : State) : Answer := .next (s.setEnv { s.env with now := s.env.now + d })

/-- The result ports after RESET: every one unspecified (R39, R291), a free value each. -/
def freeResults (n : Nat) : Results where
  status := Config.freeStatus n
  info := Config.freeInfo n
  outBuf := Config.freeOutBuf n
  value := Config.freeValue n
  crcLow := Config.freeCrcLow n
  crcHigh := Config.freeCrcHigh n
  opcode := Config.freeOpcode n
  errCode := Config.freeErrCode n

/-- The engine after RESET (R39, R291); `t0` and `timeout_latched` are unspecified, a free value each. -/
def resetEngine (n : Nat) : Engine where
  started := false
  acc := []
  latest := []
  txnState := .idle
  busy := false
  t0 := Config.freeT0 n
  timeoutLatched := Config.freeTimeout n
  rxFault := false

/-- RESET (R291): configuration, tables, `rx_pending` and `now` are untouched; a pending transaction is
abandoned (R292), and with it the host's EXCHANGE. -/
def execReset (s : State) : Answer :=
  .next
    (((((s.setEng (resetEngine s.draws)).setEnv { s.env with txStream := [] }).setCrc 0xFF 0xFF).setRes
      (freeResults s.draws)).setExchanging false).draw

end Sys2Proof.Machine
end

