-- ==== Sys2Proof/Machine/Wire.lean ====
section
/-! DEFINITION. The rows of the table that are no request of the block: EXCHANGE (R102), the two frame formats
as they travel on the wire (R80 to R82), the protocol opcode constants (R98) and the status codes (R97). Log
entries 13 to 16 say which effect the spec gives each. -/

namespace Sys2Proof.Machine

/-- The first two operations of an EXCHANGE, as the host composes them: `f = FRAME_ENC(opcode, payload)` and, if
that succeeded, `TRANSACTION(f, timeout)`, whose `IN_BUF` the host loads with `f` (R102 (1)). That `OP_SEL` keeps its
old value, where two requests of the host would put `0x7` and then `0xA` on it (R95), is the model's choice (log entry
33). -/
def State.sendCommand (s : State) : State :=
  if s.frameEnc.res.status = statusCode .ok then (s.frameEnc.setInBuf s.frameEnc.res.outBuf).transaction
  else s.frameEnc

/-- The command of `s` is sent: the payload fits (R165) and the transaction is accepted (R200). -/
def sendable (s : State) : Bool := decide (s.args.inBuf.length ≤ payloadBound s.cfg) && acceptable s

/-- EXCHANGE (R102 (1)), up to the point where it waits: "if that fails, the failure is the result; otherwise
`FRAME_DEC(b)`", which the host requests by `resume`, at any moment after the transaction has ended. -/
def execExchange (s : State) : Answer :=
  .next (if sendable s then s.sendCommand.setExchanging true else s.sendCommand)

/-- What the end of its transaction is to the host's EXCHANGE (R102 (1)): on data the host keeps the buffer received,
to give it to FRAME_DEC; on a timeout that failure stands as the result. -/
def continueExchange (t : State) : State :=
  if t.exchanging ∧ t.eng.busy = false then
    (t.setExchanging false).setToDecode
      (t.toDecode ++ if t.eng.txnState = .dataReady then [t.res.outBuf] else [])
  else t

/-- FRAME_CMD: a command frame goes out on the wire. The frame of R81 for `ARG_OPCODE` and `IN_BUF` is assembled
and written by a TRANSACTION, the one operation that writes the port (R64, R192); it is refused as FRAME_ENC and
TRANSACTION refuse (R165, R200). -/
def execFrameCmd (s : State) : Answer := .next s.sendCommand

/-- FRAME_RSP: the response frame of R82 with these fields arrives at the port, an ENV_RX whose bytes are that
frame (R80, R193). -/
def execFrameRsp (opLow opHigh err : Byte) (payload : Bytes) (s : State) : Answer :=
  .next (s.arrive (responseFrame s.cfg opLow opHigh err payload))

/-! The protocol opcode constants: the facade puts the constant on `ARG_OPCODE`, from where it becomes "the
opcodeLow byte (offset 5) of a frame" (R98). -/

/-- `OPC_LOGIN`, `0x80` (R98). -/
def execOpcLogin (s : State) : Answer := .next (s.setArgOpcode 0x0080)

/-- `OPC_LOGOUT`, `0x81` (R98). -/
def execOpcLogout (s : State) : Answer := .next (s.setArgOpcode 0x0081)

/-- `OPC_TEST_COMMAND`, `0xD0` (R98). -/
def execOpcTestCommand (s : State) : Answer := .next (s.setArgOpcode 0x00D0)

/-- `OPC_ONLINE_ADJUST`, `0xD1` (R98). -/
def execOpcOnlineAdjust (s : State) : Answer := .next (s.setArgOpcode 0x00D1)

/-- `OPC_READBACK_SAMPLING`, `0xD2` (R98). -/
def execOpcReadbackSampling (s : State) : Answer := .next (s.setArgOpcode 0x00D2)

/-- `OPC_STOP_TEST`, `0xD3` (R98). -/
def execOpcStopTest (s : State) : Answer := .next (s.setArgOpcode 0x00D3)

/-- `OPC_READBACK_ERROR`, "a configurable constant" (R98). -/
def execOpcReadbackError (s : State) : Answer := .next (s.setArgOpcode (s.cfg.opcReadbackError.setWidth 16))

/-! The status codes: the status is delivered (R97, R267). -/

/-- `Ok`, `0x0` (R97). -/
def execStatusOk (s : State) : Answer := .next (s.report .ok)

/-- `FrameError::Empty`, `0x1` (R97, R253). -/
def execStatusFrameEmpty (s : State) : Answer := .next (s.report .frameEmpty)

/-- `FrameError::InvalidMarkers`, `0x2` (R97, R254). -/
def execStatusFrameInvalidMarkers (s : State) : Answer := .next (s.report .frameInvalidMarkers)

/-- `FrameError::LengthMismatch`, `0x3` (R97, R255). -/
def execStatusFrameLengthMismatch (s : State) : Answer := .next (s.report .frameLengthMismatch)

/-- `FrameError::CrcMismatch`, `0x4` (R97, R256). -/
def execStatusFrameCrcMismatch (s : State) : Answer := .next (s.report .frameCrcMismatch)

/-- `EncodingError`, `0x5`, with its sub-cause in `INFO` (R97, R252, R258). -/
def execStatusEncodingError (c : SubCause) (s : State) : Answer := .next (s.report (.encodingError c))

/-- `RegisterError::LengthMismatch`, `0x6` (R97, R259). -/
def execStatusRegisterLengthMismatch (s : State) : Answer := .next (s.report .registerLengthMismatch)

/-- `RangeError`, `0x7`, which only the facade reports (R97, R257). -/
def execStatusRangeError (s : State) : Answer := .next (s.report .rangeError)

/-- `TransactionTimeout`, `0x8` (R97, R260). -/
def execStatusTransactionTimeout (s : State) : Answer := .next (s.report .transactionTimeout)

/-- `Busy`, `0x9` (R97, R261). -/
def execStatusBusy (s : State) : Answer := .next (s.report .busy)

/-- `RxOverflow`, `0xA` (R97, R262). -/
def execStatusRxOverflow (s : State) : Answer := .next (s.report .rxOverflow)

/-- `IllegalOperation`, `0xF` (R97, R263). -/
def execStatusIllegalOperation (s : State) : Answer := .next (s.report .illegalOperation)

end Sys2Proof.Machine
end

