-- ==== Sys2Proof/Machine/Dispatch.lean ====
section
/-! DEFINITION. The dispatch: one arm per constructor of `Instr`, each one call of that instruction's meaning. -/

namespace Sys2Proof.Machine

def exec (i : Instr) (s : State) : Host.Outcome State Fault Refusal :=
  match i with
  | .crc16 => Sys2Proof.Machine.execCrc16 s
  | .encUint => Sys2Proof.Machine.execEncUint s
  | .decUint => Sys2Proof.Machine.execDecUint s
  | .encFloat => Sys2Proof.Machine.execEncFloat s
  | .decFloat => Sys2Proof.Machine.execDecFloat s
  | .decBool => Sys2Proof.Machine.execDecBool s
  | .encBool => Sys2Proof.Machine.execEncBool s
  | .frameEnc => Sys2Proof.Machine.execFrameEnc s
  | .frameDec => Sys2Proof.Machine.execFrameDec s
  | .start => Sys2Proof.Machine.execStart s
  | .transaction => Sys2Proof.Machine.execTransaction s
  | .reservedB => Sys2Proof.Machine.execReservedB s
  | .reservedC => Sys2Proof.Machine.execReservedC s
  | .reservedD => Sys2Proof.Machine.execReservedD s
  | .reservedE => Sys2Proof.Machine.execReservedE s
  | .reservedF => Sys2Proof.Machine.execReservedF s
  | .rdStep k => Sys2Proof.Machine.execRdStep k s
  | .txnPoll => Sys2Proof.Machine.execTxnPoll s
  | .envRx e => Sys2Proof.Machine.execEnvRx e s
  | .tick d => Sys2Proof.Machine.execTick d s
  | .reset => Sys2Proof.Machine.execReset s
  | .exchange => Sys2Proof.Machine.execExchange s
  | .serialize set => Sys2Proof.Machine.execSerialize set s
  | .deserialize set => Sys2Proof.Machine.execDeserialize set s
  | .frameCmd => Sys2Proof.Machine.execFrameCmd s
  | .frameRsp opLow opHigh err payload => Sys2Proof.Machine.execFrameRsp opLow opHigh err payload s
  | .opcLogin => Sys2Proof.Machine.execOpcLogin s
  | .opcLogout => Sys2Proof.Machine.execOpcLogout s
  | .opcTestCommand => Sys2Proof.Machine.execOpcTestCommand s
  | .opcOnlineAdjust => Sys2Proof.Machine.execOpcOnlineAdjust s
  | .opcReadbackSampling => Sys2Proof.Machine.execOpcReadbackSampling s
  | .opcStopTest => Sys2Proof.Machine.execOpcStopTest s
  | .opcReadbackError => Sys2Proof.Machine.execOpcReadbackError s
  | .statusOk => Sys2Proof.Machine.execStatusOk s
  | .statusFrameEmpty => Sys2Proof.Machine.execStatusFrameEmpty s
  | .statusFrameInvalidMarkers => Sys2Proof.Machine.execStatusFrameInvalidMarkers s
  | .statusFrameLengthMismatch => Sys2Proof.Machine.execStatusFrameLengthMismatch s
  | .statusFrameCrcMismatch => Sys2Proof.Machine.execStatusFrameCrcMismatch s
  | .statusEncodingError c => Sys2Proof.Machine.execStatusEncodingError c s
  | .statusRegisterLengthMismatch => Sys2Proof.Machine.execStatusRegisterLengthMismatch s
  | .statusRangeError => Sys2Proof.Machine.execStatusRangeError s
  | .statusTransactionTimeout => Sys2Proof.Machine.execStatusTransactionTimeout s
  | .statusBusy => Sys2Proof.Machine.execStatusBusy s
  | .statusRxOverflow => Sys2Proof.Machine.execStatusRxOverflow s
  | .statusIllegalOperation => Sys2Proof.Machine.execStatusIllegalOperation s

end Sys2Proof.Machine
end

