-- ==== Sys2Proof/WellFormed.lean ====
section
/-! DEFINITION. Which terms of `Instr` are steps of the spec. Only the choices the spec hands to the
environment can be ill formed: a delivery is non-empty (R193), time advances by more than 0 (R194), and a response
frame's length field must hold `n + 3` (R82). A read count is never ill formed: a read of no pending byte returns 0
bytes (R193), and any other count is brought into R193's range (log entry 29). -/

namespace Sys2Proof

/-- The bound of the 4-byte length field of both frame formats (R81, R82; `LEN_WIDTH` of R7). -/
def lenFieldBound : Nat := 256 ^ 4

/-- The check that a step of the spec passes. The step function stops on no term that fails it (log entry 30). -/
def Instr.wellFormed : Instr → Bool
  | .rdStep _ => true
  | .envRx e => !e.isEmpty
  | .tick d => decide (0 < d)
  | .frameRsp _ _ _ payload => decide (payload.length + 3 < lenFieldBound)
  | .crc16 => true
  | .encUint => true
  | .decUint => true
  | .encFloat => true
  | .decFloat => true
  | .decBool => true
  | .encBool => true
  | .frameEnc => true
  | .frameDec => true
  | .start => true
  | .transaction => true
  | .reservedB => true
  | .reservedC => true
  | .reservedD => true
  | .reservedE => true
  | .reservedF => true
  | .txnPoll => true
  | .reset => true
  | .exchange => true
  | .serialize _ => true
  | .deserialize _ => true
  | .frameCmd => true
  | .opcLogin => true
  | .opcLogout => true
  | .opcTestCommand => true
  | .opcOnlineAdjust => true
  | .opcReadbackSampling => true
  | .opcStopTest => true
  | .opcReadbackError => true
  | .statusOk => true
  | .statusFrameEmpty => true
  | .statusFrameInvalidMarkers => true
  | .statusFrameLengthMismatch => true
  | .statusFrameCrcMismatch => true
  | .statusEncodingError _ => true
  | .statusRegisterLengthMismatch => true
  | .statusRangeError => true
  | .statusTransactionTimeout => true
  | .statusBusy => true
  | .statusRxOverflow => true
  | .statusIllegalOperation => true

end Sys2Proof
end

