-- ==== Sys2Proof/Decode.lean ====
section
/-! DEFINITION. Decoding and encoding of the two coded groups of rows: the 4-bit `OP_SEL` codes (R95, R99), all
sixteen of which have a meaning, and the protocol opcode bytes (R98). A code outside both is rejected by name.
Agent steps, RESET, pseudo-operations and the frame formats have no code (R96, R102); the status codes of R97 are
results, not requests (log entry 4). -/

namespace Sys2Proof

/-- Why a code is no instruction. -/
inductive Reject where
  /-- no byte to decode -/
  | noByte
  /-- the byte is neither an `OP_SEL` code (R95) nor one of the seven protocol opcode constants (R98) -/
  | noSuchCode (b : Byte)
  deriving DecidableEq, Repr

/-- A code: the 4 bits of `OP_SEL`, or the byte of a protocol opcode. -/
inductive Code where
  | opSel (c : BitVec 4)
  | opcode (b : Byte)
  deriving DecidableEq, Repr

/-- The operation select map (R95); `0xB .. 0xF` are the reserved codes (R99). -/
def decodeOpSel (c : BitVec 4) : Instr :=
  match c.toNat with
  | 0x0 => .crc16
  | 0x1 => .encUint
  | 0x2 => .decUint
  | 0x3 => .encFloat
  | 0x4 => .decFloat
  | 0x5 => .decBool
  | 0x6 => .encBool
  | 0x7 => .frameEnc
  | 0x8 => .frameDec
  | 0x9 => .start
  | 0xA => .transaction
  | 0xB => .reservedB
  | 0xC => .reservedC
  | 0xD => .reservedD
  | 0xE => .reservedE
  | _ => .reservedF

/-- The value of `OPC_READBACK_ERROR` where nothing configures another (R98). -/
def defaultReadbackError : Byte := 0xD5

/-- The opcode constants of R98; `readbackError` is the configured `OPC_READBACK_ERROR`. -/
def decodeOpcode (readbackError b : Byte) : Option Instr :=
  if b = 0x80 then some .opcLogin
  else if b = 0x81 then some .opcLogout
  else if b = 0xD0 then some .opcTestCommand
  else if b = 0xD1 then some .opcOnlineAdjust
  else if b = 0xD2 then some .opcReadbackSampling
  else if b = 0xD3 then some .opcStopTest
  else if b = readbackError then some .opcReadbackError
  else none

/-- The two code spaces together. -/
def decode (readbackError : Byte) : Code → Except Reject Instr
  | .opSel c => .ok (decodeOpSel c)
  | .opcode b =>
    match decodeOpcode readbackError b with
    | some i => .ok i
    | none => .error (.noSuchCode b)

/-- Which code space a byte lies in: `OP_SEL` is 4 bits wide (R21), so a byte below 16 is its code. -/
def codeOfByte (b : Byte) : Code :=
  if b.toNat < 16 then .opSel (b.setWidth 4) else .opcode b

/-- Decoding from a byte sequence: the instruction and the bytes after it, for any bytes. -/
def decodeBytes (readbackError : Byte) : Bytes → Except Reject (Instr × Bytes)
  | [] => .error .noByte
  | b :: rest =>
    match decode readbackError (codeOfByte b) with
    | .ok i => .ok (i, rest)
    | .error e => .error e

/-- The instruction the decoder reads from the table's word `w` of `nbits` bits, bit 0 the least
significant bit of the first byte. -/
def decodeTableWord (nbits w : Nat) : Option Instr :=
  match decodeBytes defaultReadbackError (Machine.leBytes ((nbits + 7) / 8) w) with
  | .ok (i, _) => some i
  | .error _ => none

/-- The code of an instruction that has one (R95, R98, R99); the rest have none (R96, R102). -/
def encode (readbackError : Byte) : Instr → Option Code
  | .crc16 => some (.opSel 0x0)
  | .encUint => some (.opSel 0x1)
  | .decUint => some (.opSel 0x2)
  | .encFloat => some (.opSel 0x3)
  | .decFloat => some (.opSel 0x4)
  | .decBool => some (.opSel 0x5)
  | .encBool => some (.opSel 0x6)
  | .frameEnc => some (.opSel 0x7)
  | .frameDec => some (.opSel 0x8)
  | .start => some (.opSel 0x9)
  | .transaction => some (.opSel 0xA)
  | .reservedB => some (.opSel 0xB)
  | .reservedC => some (.opSel 0xC)
  | .reservedD => some (.opSel 0xD)
  | .reservedE => some (.opSel 0xE)
  | .reservedF => some (.opSel 0xF)
  | .opcLogin => some (.opcode 0x80)
  | .opcLogout => some (.opcode 0x81)
  | .opcTestCommand => some (.opcode 0xD0)
  | .opcOnlineAdjust => some (.opcode 0xD1)
  | .opcReadbackSampling => some (.opcode 0xD2)
  | .opcStopTest => some (.opcode 0xD3)
  | .opcReadbackError => some (.opcode readbackError)
  | .rdStep _ => none
  | .txnPoll => none
  | .envRx _ => none
  | .tick _ => none
  | .reset => none
  | .exchange => none
  | .serialize _ => none
  | .deserialize _ => none
  | .frameCmd => none
  | .frameRsp _ _ _ _ => none
  | .statusOk => none
  | .statusFrameEmpty => none
  | .statusFrameInvalidMarkers => none
  | .statusFrameLengthMismatch => none
  | .statusFrameCrcMismatch => none
  | .statusEncodingError _ => none
  | .statusRegisterLengthMismatch => none
  | .statusRangeError => none
  | .statusTransactionTimeout => none
  | .statusBusy => none
  | .statusRxOverflow => none
  | .statusIllegalOperation => none

end Sys2Proof
end

