-- ==== Sys2Proof/Machine/Fetch.lean ====
section
/-! DEFINITION. What comes next. The block fetches no instruction (R24): its next step is the one the host, the
reader, the pending transaction or the environment takes next in the one total order of R67. `schedule` holds that
order as far as it is given; past its end "any agent whose step is enabled may take the next step" (R66), and a
free value picks it. -/

namespace Sys2Proof.Machine

/-- The step taken when nothing is scheduled (R66; log entry 6): the reader's, the pending transaction's, the
environment's or, where an EXCHANGE has a buffer to decode, the host's, with free choices where R193 and R194 leave the
choice to the environment. -/
def autonomous (n : Nat) : Event :=
  match (Config.freeAgent n).toNat with
  | 0 => .act (.rdStep (Config.freeReadCount n + 1))
  | 1 => .act .txnPoll
  | 2 => .act (.envRx (Config.freeArrivalHead n :: Config.freeArrivalTail n))
  | 3 => .resume
  | _ => .act (.tick (Config.freeTick n + 1))

/-- What the next step does. -/
inductive Fetched where
  /-- the instruction runs in this state -/
  | run (i : Instr) (t : State)
  /-- the host or the boundary wrote its own ports or registers, or its turn passed; no instruction runs -/
  | host (t : State)
  /-- the byte is no opcode constant of R98 -/
  | reject (b : Byte)
  deriving DecidableEq, Repr

/-- The event `e` happens; `s` is the state with `e` taken off the schedule. The host can go on with an EXCHANGE at any
moment once it has the buffer, so other agents' steps can come between (R66); with no buffer received the turn passes
(log entries 12, 17). -/
def fetchEvent (e : Event) (s : State) : Fetched :=
  match e with
  | .drive a => .host (s.setArgs a)
  | .assign set vs => .host (s.setRegSet set (assignValues (s.regSet set) vs))
  | .request c => .run (decodeOpSel c) (s.setOpSel c)
  | .opcode b =>
    match decodeOpcode s.cfg.opcReadbackError b with
    | some i => .run i s
    | none => .reject b
  | .act i => .run i s
  | .resume =>
    match s.toDecode with
    | [] => .host s
    | b :: more => .run .frameDec (((s.setToDecode more).setInBuf b).setOpSel 0x8)

/-- The event that comes next, and the state with it taken up (R66, R67). -/
def nextEvent (s : State) : Event × State :=
  match s.schedule with
  | [] => (autonomous s.draws, s.draw)
  | e :: rest => (e, s.setSchedule rest)

/-- The next step of `s`. -/
def fetch (s : State) : Fetched := fetchEvent (nextEvent s).1 (nextEvent s).2

/-- What `step` adds around `exec`: the host's EXCHANGE takes note of the end of its transaction (R102 (1)). -/
def settle : Answer → Answer
  | .next t => .next (continueExchange t)
  | .fault f => .fault f
  | .refused r => .refused r

/-- The event that requests a code. -/
def eventOfCode : Code → Event
  | .opSel c => .request c
  | .opcode b => .opcode b

/-- The event that requests the table's word `w` of `nbits` bits, from its first byte. -/
def eventOfWord (nbits w : Nat) : Event :=
  eventOfCode (codeOfByte (byteAt (leBytes ((nbits + 7) / 8) w) 0))

end Sys2Proof.Machine
end

