-- ==== Sys2Proof/Machine/Step.lean ====
section
/-! DEFINITION. One step of the machine, and placing a coded instruction where the next step takes it. -/

namespace Sys2Proof.Machine

/-- One step: the next event is taken (R67) and, where it is an instruction, it runs, with the operands it was
given. A term the spec has no step for (`Instr.wellFormed`) runs too and does nothing the spec's steps could not do
(log entry 30). -/
def step (s : State) : Host.Outcome State Fault Refusal :=
  match fetch s with
  | .host t => .next t
  | .run i t => settle (exec i t)
  | .reject b => .refused (.noSuchCode b)

/-- `s` with the request for the table's word `w` next on the schedule. -/
def State.withFetchWord (s : State) (nbits w : Nat) : State :=
  s.setSchedule (eventOfWord nbits w :: s.schedule)

end Sys2Proof.Machine
end

