-- ==== Sys2Proof/Safety.lean ====
section
/-! DEFINITION. The terms the statements are written in: the invariant of the block, the frames of its operations
(which parts of the state a step leaves alone), and what the primitive formats mean. -/

namespace Sys2Proof.Machine

/-! Frames. The exception to each is written out; `draws` counts the free values used. -/

/-- Only the result ports changed. -/
def SameButResults (s t : State) : Prop := t = { s with res := t.res, draws := t.draws }

/-- Only the result ports and the CRC working registers (R22) changed. -/
def SameButResultsCrc (s t : State) : Prop :=
  t = { s with res := t.res, crcHigh := t.crcHigh, crcLow := t.crcLow, draws := t.draws }

/-- Only the result ports, the CRC working registers (R22) and the parse cursor (R24) changed. -/
def SameButResultsCrcPos (s t : State) : Prop :=
  t = { s with res := t.res, crcHigh := t.crcHigh, crcLow := t.crcLow, pos := t.pos, draws := t.draws }

/-- The operation reported this outcome (R97, R252). -/
def Reports (t : State) (st : Status) : Prop := t.res.status = statusCode st ∧ t.res.info = statusInfo st

/-- The operation failed with this outcome and did nothing else (R267): every other result port is unspecified,
which is to say a free value (R21). -/
def FailsWith (s t : State) (st : Status) : Prop := Reports t st ∧ SameButResults s t

/-! The invariant. -/

/-- "`busy = 1` exactly when `txn_state = Reading`" (R31). -/
def GuardMatches (s : State) : Prop := s.eng.busy = true ↔ s.eng.txnState = .reading

/-- A pending transaction's `t0` is no later than `now` (R32, R35: `now` is non-decreasing). -/
def LatchedInPast (s : State) : Prop := s.eng.busy = true → s.eng.t0 ≤ s.env.now

/-- With `RX_BUF_MAX = M` set, `latest` is no longer than `M`, and `acc` is no longer than `M` while there is no
overflow (R28, R198, R199). -/
def BuffersBounded (s : State) : Prop :=
  ∀ m, s.cfg.rxBufMax = some m →
    s.eng.latest.length ≤ m ∧ (s.eng.rxFault = false → s.eng.acc.length ≤ m)

/-- Every register set has the fixed layout it was declared with (R231 to R234). -/
def SetsKeepLayout (s : State) : Prop :=
  ∀ id, (s.regSet id).map Reg.ty = layout s.cfg.meterType id

/-- A host's EXCHANGE waits only while its transaction is pending (R102). -/
def ExchangePending (s : State) : Prop := s.exchanging = true → s.eng.busy = true

/-- The parameters are in the ranges of R7. -/
def ConfigInRange (s : State) : Prop := s.cfg.wellFormed = true

/-- The invariant of the block. -/
structure State.Inv (s : State) : Prop where
  guardMatches : GuardMatches s
  latchedInPast : LatchedInPast s
  buffersBounded : BuffersBounded s
  setsKeepLayout : SetsKeepLayout s
  exchangePending : ExchangePending s
  configInRange : ConfigInRange s

/-! Transitions. -/

/-- The arrows of R205. -/
def txnArrow : TxnState → TxnState → Bool
  | .idle, .reading => true
  | .dataReady, .reading => true
  | .timedOut, .reading => true
  | .reading, .dataReady => true
  | .reading, .timedOut => true
  | _, _ => false

/-! Progress (R212). An order of events is given from outside, one event whenever nothing is scheduled (R67); the
assumptions are about the steps a run under it takes. Nothing in `step` enforces them (log entry 18). -/

/-- The state with its next event settled: what is scheduled comes first, else `e`. -/
def State.supplied (s : State) (e : Event) : State := if s.schedule = [] then s.setSchedule [e] else s

/-- `run` is the sequence of states under the order of events `order`. -/
def Follows (order : Nat → Event) (run : Nat → State) : Prop :=
  ∀ n, step ((run n).supplied (order n)) = .next (run (n + 1))

/-- The step after `run n` runs `i`. -/
def Takes (order : Nat → Event) (run : Nat → State) (n : Nat) (i : Instr) : Prop :=
  ∃ u, fetch ((run n).supplied (order n)) = .run i u

/-- "An enabled TXN_POLL is eventually taken" (R212): again and again it is taken or found not enabled. -/
def PollsAreTaken (order : Nat → Event) (run : Nat → State) : Prop :=
  ∀ n, ∃ m, n ≤ m ∧ (pollEnabled (run m) = true → Takes order run m .txnPoll)

/-- "`now` grows without bound" (R212). -/
def TimeIsUnbounded (run : Nat → State) : Prop := ∀ bound, ∃ m, bound ≤ (run m).env.now

/-- "An enabled RD_STEP must eventually be taken while nothing is pending" (R212). -/
def QuietReadsAreTaken (order : Nat → Event) (run : Nat → State) : Prop :=
  ∀ n, ∃ m, n ≤ m ∧
    (readerEnabled (run m) = true → (run m).env.rxPending = [] ∧ ∃ k, Takes order run m (.rdStep k))

/-! Floating point, as numbers: magnitudes are in units of `2 ^ -1074` (R89). -/

/-- A pattern of the format that is neither a NaN nor an infinity. -/
def isFinite (f : Format) (p : Nat) : Bool := !isNan f p && !isInf f p

/-- Two patterns, neither a NaN, of the same value: the same sign, and both infinite or both finite of the same
magnitude. `+0.0` and `-0.0` are different values here (R139 (a), R142: the sign of zero is kept). -/
def SameValue (f : Format) (p : Nat) (g : Format) (q : Nat) : Prop :=
  fieldSign f p = fieldSign g q ∧
    ((isInf f p = true ∧ isInf g q = true) ∨
      (isFinite f p = true ∧ isFinite g q = true ∧ magnitude f p = magnitude g q))

/-- `q` of format `g` is what the pattern `p` of format `f` becomes by an exact conversion: a NaN becomes some NaN, any
other pattern one of the same value (R142). -/
def Converts (f : Format) (p : Nat) (g : Format) (q : Nat) : Prop :=
  (isNan f p = true ∧ isNan g q = true) ∨ (isNan f p = false ∧ isNan g q = false ∧ SameValue f p g q)

/-- `p` is what ENC_FLOAT at width 4 makes of `x` in the configuration of `s` (R137, R235): some NaN of a NaN, else the
pattern whose bytes it reports. -/
def Narrows (s : State) (x : BitVec 64) (p : BitVec 32) : Prop :=
  (isNan binary64 x.toNat = true ∧ isNan binary32 p.toNat = true) ∨
  (isNan binary64 x.toNat = false ∧
    ∃ u, exec .encFloat (s.setArgs { s.args with value := x, width := 4 }) = .next u ∧ Reports u .ok ∧
      u.res.outBuf = leBytes 4 p.toNat)

/-- The distance of two magnitudes. -/
def distance (a b : Nat) : Nat := (a - b) + (b - a)

/-- The magnitude of `(2 - 2^-24) * 2^127`, from which on rounding leaves the finite binary32 range (R139 (c)). -/
def overflowThreshold : Nat := (2 ^ 25 - 1) * 2 ^ (127 - 24 + 1074)

/-- ENC_FLOAT at width 4 refuses `x` in the configuration of `s`: it is finite, at or beyond the threshold, and
`F32_OVERFLOW = fault` (R139 (c)). -/
def FloatOverflows (s : State) (x : BitVec 64) : Prop :=
  isFinite binary64 x.toNat = true ∧ overflowThreshold ≤ magnitude binary64 x.toNat ∧ s.cfg.f32Overflow = .fault

/-- An unsigned field of `w` bytes with value `x` is refused in the configuration of `s`: the value does not fit, and
`UINT_OVERFLOW = fault` (R132, R238). -/
def UintOverflows (s : State) (x : BitVec 64) (w : Nat) : Prop :=
  256 ^ w ≤ x.toNat ∧ s.cfg.uintOverflow = .fault

/-- A register whose encode fails (R235). -/
def RegOverflows (s : State) (r : Reg) : Prop :=
  match r.ty with
  | .uint w => UintOverflows s r.value w
  | .float _ => FloatOverflows s r.value
  | .bool => False

end Sys2Proof.Machine
end

