-- ==== Sys2Proof/Certificates/Slice0/Obligations.lean ====
section
/-! DEFINITION. The statements for the provers. Each cites the rules of spec/ it formalises; what a statement rests
on beyond them (a decision of the spec's own, a log entry of the model) its docstring names. Result ports that an
operation does not write hold free values (R21, log entry 7): `SameButResults` and its like say what stays, and the
statements say of each written port what it holds. -/

open Sys2Proof Sys2Proof.Machine

/-! ## The machine -/

/-- A step runs the event at the head of the schedule, or with nothing scheduled that of a freely chosen agent (R66, R67):
a request sets `OP_SEL` and runs what the code decodes to (R95), an opcode byte or a step without a code runs its
instruction, the host's port writes (R21) and the boundary's assignment of register values (R230) run none, and the host
going on with an EXCHANGE requests FRAME_DEC of the oldest buffer received (R102), its turn passing where there is none.
The schedule and the free choice are the model's (log entry 6), as are the opcode byte as an event (log entries 15, 28)
and the EXCHANGE going on as one (log entry 17). Around `exec` a step adds only that the end of a transaction ends the
wait of an EXCHANGE, and keeps the buffer received for its FRAME_DEC. -/
def Obligations.StepRunsScheduledEvent : Prop :=
  (∀ (s t : State) (e : Event),
    (s.schedule = [] ∧ e = autonomous s.draws ∧ t = s.draw) ∨ (∃ rest, s.schedule = e :: rest ∧ t = s.setSchedule rest) →
    (∀ c, e = .request c → step s = settle (exec (decodeOpSel c) (t.setOpSel c))) ∧
    (∀ b i, e = .opcode b → decodeOpcode s.cfg.opcReadbackError b = some i → step s = settle (exec i t)) ∧
    (∀ i, e = .act i → step s = settle (exec i t)) ∧
    (∀ a, e = .drive a → step s = .next (t.setArgs a)) ∧
    (∀ set vs, e = .assign set vs → step s = .next (t.setRegSet set (assignValues (s.regSet set) vs))) ∧
    (∀ b more, e = .resume → s.toDecode = b :: more →
      step s = settle (exec .frameDec (((t.setToDecode more).setInBuf b).setOpSel 0x8))) ∧
    (e = .resume → s.toDecode = [] → step s = .next t)) ∧
  (∀ n, autonomous n = .resume ∨ ∃ i, autonomous n = .act i ∧ i.wellFormed = true) ∧
  ∀ u : State,
    (u.exchanging = false ∨ u.eng.busy = true → settle (.next u) = .next u) ∧
    (u.exchanging = true → u.eng.busy = false → settle (.next u) = .next
      { u with
        exchanging := false
        toDecode := u.toDecode ++ if u.eng.txnState = .dataReady then [u.res.outBuf] else [] })

/-- Every instruction, in every state, is answered by a next state: failures are results (R250, R267, R268). So a step
answers a next state too, unless the scheduled opcode byte is no constant of the decoder's list; that such a byte is
refused is the model's choice (log entry 28), no rule's. -/
def Obligations.OnlyUnknownOpcodesStopTheMachine : Prop :=
  (∀ (i : Instr) (s : State), ∃ t, exec i s = .next t) ∧
    ∀ s : State,
      ((∀ b rest, s.schedule = .opcode b :: rest → decodeOpcode s.cfg.opcReadbackError b ≠ none) →
        ∃ t, step s = .next t) ∧
      ∀ b rest, s.schedule = .opcode b :: rest → decodeOpcode s.cfg.opcReadbackError b = none →
        step s = .refused (.noSuchCode b)

/-- The invariant of the block is kept by every step, from every state that has it (R31, R32, R35, R28, R199, R231,
R102, R8). -/
def Obligations.EveryStepKeepsInvariant : Prop := ∀ s t : State, s.Inv → step s = .next t → t.Inv

/-- The state after reset has the invariant. -/
def Obligations.ResetHasInvariant : Prop := State.reset.Inv

/-- The values R39 gives the state after reset, all the spec's own (decision D28); those it leaves unspecified (log
entry 3) are not stated. -/
def Obligations.ResetStateHasTableValues : Prop :=
  State.reset.crcHigh = 0xFF ∧ State.reset.crcLow = 0xFF ∧ State.reset.eng.started = false ∧
    State.reset.eng.acc = [] ∧ State.reset.eng.latest = [] ∧ State.reset.eng.txnState = .idle ∧
    State.reset.eng.busy = false ∧ State.reset.eng.rxFault = false ∧ State.reset.env.txStream = []

/-- RESET in any state (R291, R292; decision D28): the values of R39's table, whatever was pending; configuration,
tables, `rx_pending` and `now` untouched. What R39 leaves unspecified (`t0`, `timeout_latched`, the result ports) is not
stated. That the operand ports, `OP_SEL`, `pos`, the boundary's register sets and the schedule, which R39's table does
not list, survive RESET is the model's choice (log entry 27), as is that a buffer the host has received for an EXCHANGE
stays with it (log entry 17). -/
def Obligations.ResetEventClearsEngine : Prop :=
  ∀ s : State, ∃ t, exec .reset s = .next t ∧
    t = { s with
          crcHigh := 0xFF, crcLow := 0xFF, res := t.res, draws := t.draws, exchanging := false,
          env := { s.env with txStream := [] },
          eng :=
            { started := false, acc := [], latest := [], txnState := .idle, busy := false, t0 := t.eng.t0,
              timeoutLatched := t.eng.timeoutLatched, rxFault := false } }

/-- No step changes the configuration, the CRC tables among it (R8, R23, R71; decision D38). -/
def Obligations.NoStepChangesConfiguration : Prop := ∀ s t : State, step s = .next t → t.cfg = s.cfg

/-- The reader's state is the reader's (R28, R190, R271): only RD_STEP and RESET change `acc` or `rx_fault`, only
they and the transaction's take change `latest`, and only START and RESET change `started` (R27). -/
def Obligations.OnlyReaderWritesReaderState : Prop :=
  ∀ (i : Instr) (s t : State), exec i s = .next t →
    (t.eng.acc ≠ s.eng.acc → i = .reset ∨ ∃ k, i = .rdStep k) ∧
    (t.eng.rxFault ≠ s.eng.rxFault → i = .reset ∨ ∃ k, i = .rdStep k) ∧
    (t.eng.latest ≠ s.eng.latest → i = .reset ∨ i = .txnPoll ∨ ∃ k, i = .rdStep k) ∧
    (t.eng.started ≠ s.eng.started → i = .reset ∨ i = .start)

/-- The caller's state is the caller's (R31, R32, R190, R271): only an accepted transaction (requested as
TRANSACTION, or inside EXCHANGE or FRAME_CMD), TXN_POLL and RESET change the guard, the transaction state and the
latched times, and none but these writes of TRANSACTION and RESET change `tx_stream` (R33, R64). -/
def Obligations.OnlyCallerWritesTransactionState : Prop :=
  ∀ (i : Instr) (s t : State), exec i s = .next t →
    (t.eng.busy ≠ s.eng.busy ∨ t.eng.txnState ≠ s.eng.txnState →
      i = .transaction ∨ i = .exchange ∨ i = .frameCmd ∨ i = .txnPoll ∨ i = .reset) ∧
    (t.eng.t0 ≠ s.eng.t0 ∨ t.eng.timeoutLatched ≠ s.eng.timeoutLatched ∨ t.env.txStream ≠ s.env.txStream →
      i = .transaction ∨ i = .exchange ∨ i = .frameCmd ∨ i = .reset)

/-- The environment's streams are the environment's (R190): only arrivals and the reader's `PortRead` change
`rx_pending`, and only TICK changes `now`, which never decreases (R194, R35). -/
def Obligations.OnlyEnvironmentMovesTimeAndArrivals : Prop :=
  ∀ (i : Instr) (s t : State), exec i s = .next t →
    (t.env.rxPending ≠ s.env.rxPending →
      (∃ k, i = .rdStep k) ∨ (∃ e, i = .envRx e) ∨ ∃ a b c p, i = .frameRsp a b c p) ∧
    (t.env.now ≠ s.env.now → ∃ d, i = .tick d) ∧ s.env.now ≤ t.env.now

/-- `tx_stream` is the sequence of all bytes written since reset, in order (R33, R64): but for RESET an instruction
only appends to it, and appends something only when a transaction could be accepted (R200). The premise of the model is
that the port accepts every write (R192; decision D30, log entry 21). -/
def Obligations.TxStreamOnlyGrowsByAcceptedWrites : Prop :=
  ∀ (i : Instr) (s t : State), exec i s = .next t → i ≠ .reset →
    ∃ b, t.env.txStream = s.env.txStream ++ b ∧
      (b ≠ [] → s.eng.busy = false ∧ s.eng.rxFault = false ∧ t.eng.busy = true ∧ t.eng.txnState = .reading)

/-- `rx_fault` stays set until reset, and while it is set TRANSACTION writes nothing (R40, R199, R200, R268; decision
D21). That `acc`, which R199 calls unspecified from then on, holds one free value meanwhile is the model's choice (log
entry 31). -/
def Obligations.RxFaultStaysUntilReset : Prop :=
  ∀ (i : Instr) (s t : State), exec i s = .next t → s.eng.rxFault = true → i ≠ .reset →
    t.eng.rxFault = true ∧ t.eng.acc = s.eng.acc ∧ t.env.txStream = s.env.txStream

/-- Every change of `txn_state` but RESET's follows an arrow of R205 (decision D29). -/
def Obligations.TxnStateFollowsArrows : Prop :=
  ∀ (i : Instr) (s t : State), GuardMatches s → exec i s = .next t → i ≠ .reset →
    t.eng.txnState = s.eng.txnState ∨ txnArrow s.eng.txnState t.eng.txnState = true

/-- The CRC engine, the Primitive Codec and the Frame Codec are independent of all else (R110, R25, R26, R177): two
states that agree on the operand ports, the configuration and the free values get the same results. -/
def Obligations.CodecResultsDependOnOperandsOnly : Prop :=
  ∀ (i : Instr) (s s' t t' : State),
    i ∈ ([.crc16, .encUint, .decUint, .encFloat, .decFloat, .decBool, .encBool, .frameEnc, .frameDec] : List Instr) →
    s.args = s'.args → s.cfg = s'.cfg → s.draws = s'.draws →
    exec i s = .next t → exec i s' = .next t' → t.res = t'.res

/-! ## Codes -/

/-- Every `OP_SEL` code names one operation (R95, R99; the codes are the spec's own, decision D2): the code of the
operation a code decodes to is that code. -/
def Obligations.OpSelCodesAreDistinct : Prop :=
  ∀ (readbackError : Byte) (c : BitVec 4), encode readbackError (decodeOpSel c) = some (.opSel c)

/-- The words of the two code maps, all 16 and all 7, and the instructions they stand for (R95, R98; the `OP_SEL` codes
are the spec's own, decision D2). That a 4-bit word, which the table gives to a status too, is read as an `OP_SEL` code,
and that a byte outside both maps (`0xD4` while `OPC_READBACK_ERROR` is the default `0xD5`) is refused, is the model's
choice (log entries 4, 28). -/
def Obligations.TableWordsDecode : Prop :=
  (decodeTableWord 4 0x0 = some .crc16 ∧ decodeTableWord 4 0x1 = some .encUint ∧
    decodeTableWord 4 0x2 = some .decUint ∧ decodeTableWord 4 0x3 = some .encFloat ∧
    decodeTableWord 4 0x4 = some .decFloat ∧ decodeTableWord 4 0x5 = some .decBool ∧
    decodeTableWord 4 0x6 = some .encBool ∧ decodeTableWord 4 0x7 = some .frameEnc ∧
    decodeTableWord 4 0x8 = some .frameDec ∧ decodeTableWord 4 0x9 = some .start ∧
    decodeTableWord 4 0xA = some .transaction ∧ decodeTableWord 4 0xB = some .reservedB ∧
    decodeTableWord 4 0xC = some .reservedC ∧ decodeTableWord 4 0xD = some .reservedD ∧
    decodeTableWord 4 0xE = some .reservedE ∧ decodeTableWord 4 0xF = some .reservedF) ∧
    decodeTableWord 8 0x80 = some .opcLogin ∧ decodeTableWord 8 0x81 = some .opcLogout ∧
    decodeTableWord 8 0xD0 = some .opcTestCommand ∧ decodeTableWord 8 0xD1 = some .opcOnlineAdjust ∧
    decodeTableWord 8 0xD2 = some .opcReadbackSampling ∧ decodeTableWord 8 0xD3 = some .opcStopTest ∧
    decodeTableWord 8 0xD5 = some .opcReadbackError ∧ decodeTableWord 8 0xD4 = none

/-! ## CRC-16 Engine -/

/-- CRC16 (R111, R112): both registers are seeded with `0xFF`; for each message byte, in index order, both new values
come from the old ones through the two tables; `RES_CRC_LOW` is the final `crcLow`, `RES_CRC_HIGH` the final
`crcHigh` (that `lowByte` is `crcLow` is R113's reading, decision D5, log entry 11). That the working registers, dead
after the operation (R22), keep these values is the model's choice (log entry 10). -/
def Obligations.Crc16RunsTablesOverMessage : Prop :=
  ∀ s : State, ∃ t, exec .crc16 s = .next t ∧ Reports t .ok ∧
    (t.res.crcHigh, t.res.crcLow) =
      s.args.inBuf.foldl
        (fun (c : Byte × Byte) b =>
          (c.2 ^^^ s.cfg.tableHi.get (c.1 ^^^ b).toFin, s.cfg.tableLo.get (c.1 ^^^ b).toFin))
        (0xFF, 0xFF) ∧
    t.crcHigh = t.res.crcHigh ∧ t.crcLow = t.res.crcLow ∧ SameButResultsCrc s t

/-- Continuation (R114 (b)): the pair after `m ++ m'` is reached from the pair CRC16 gives for `m` by the byte steps of
`m'`; so the empty message gives the seed (R111). -/
def Obligations.Crc16Continues : Prop :=
  ∀ (s : State) (m m' : Bytes), ∃ t u,
    exec .crc16 (s.setInBuf m) = .next t ∧ exec .crc16 (s.setInBuf (m ++ m')) = .next u ∧
    (⟨u.res.crcHigh, u.res.crcLow⟩ : CrcPair) = crcFrom s.cfg ⟨t.res.crcHigh, t.res.crcLow⟩ m' ∧
    (m = [] → t.res.crcHigh = 0xFF ∧ t.res.crcLow = 0xFF)

/-! ## Primitive Codec -/

/-- Width legality (R130): each of the four operations fails with `UnsupportedWidth` on a width outside its set,
whatever the bytes (that the width is tested first is decision D10, log entry 24). -/
def Obligations.UnsupportedWidthIsRefused : Prop :=
  ∀ s : State,
    (s.args.width ∉ [2, 4] →
      (∃ t, exec .encUint s = .next t ∧ FailsWith s t (.encodingError .unsupportedWidth)) ∧
      ∃ t, exec .decUint s = .next t ∧ FailsWith s t (.encodingError .unsupportedWidth)) ∧
    (s.args.width ∉ [4, 8] →
      ∃ t, exec .encFloat s = .next t ∧ FailsWith s t (.encodingError .unsupportedWidth)) ∧
    (s.args.width ∉ [2, 4, 8] →
      ∃ t, exec .decFloat s = .next t ∧ FailsWith s t (.encodingError .unsupportedWidth))

/-- ENC_UINT at a legal width (R131, R132): where the value fits, or under `UINT_OVERFLOW = truncate`, the width's number
of bytes, byte `i` being `(v div 256^i) mod 256`; a value that does not fit under `fault` (an open parameter, decision
D6) is refused. -/
def Obligations.EncUintWritesLittleEndian : Prop :=
  ∀ s : State, s.args.width ∈ [2, 4] →
    (s.args.value.toNat < 256 ^ s.args.width ∨ s.cfg.uintOverflow = .truncate →
      ∃ t, exec .encUint s = .next t ∧ Reports t .ok ∧ SameButResults s t ∧
        t.res.outBuf.length = s.args.width ∧
        ∀ i, i < s.args.width →
          t.res.outBuf[i]? = some (BitVec.ofNat 8 (s.args.value.toNat / 256 ^ i % 256))) ∧
    (256 ^ s.args.width ≤ s.args.value.toNat → s.cfg.uintOverflow = .fault →
      ∃ t, exec .encUint s = .next t ∧ FailsWith s t (.encodingError .valueOutOfRange))

/-- DEC_UINT (R134): a width outside {2, 4} is refused, a slice length other than the width is refused, in this order
(decision D10, log entry 24); two or four bytes give their little-endian sum, zero-extended to 64 bits. -/
def Obligations.DecUintSumsBytes : Prop :=
  ∀ s : State,
    (s.args.width ∉ [2, 4] →
      ∃ t, exec .decUint s = .next t ∧ FailsWith s t (.encodingError .unsupportedWidth)) ∧
    (s.args.width ∈ [2, 4] → s.args.inBuf.length ≠ s.args.width →
      ∃ t, exec .decUint s = .next t ∧ FailsWith s t (.encodingError .sliceLength)) ∧
    (∀ b0 b1 : Byte, s.args.width = 2 → s.args.inBuf = [b0, b1] →
      ∃ t, exec .decUint s = .next t ∧ Reports t .ok ∧ SameButResults s t ∧
        t.res.value.toNat = b0.toNat + b1.toNat * 256) ∧
    (∀ b0 b1 b2 b3 : Byte, s.args.width = 4 → s.args.inBuf = [b0, b1, b2, b3] →
      ∃ t, exec .decUint s = .next t ∧ Reports t .ok ∧ SameButResults s t ∧
        t.res.value.toNat = b0.toNat + b1.toNat * 256 + b2.toNat * 256 ^ 2 + b3.toNat * 256 ^ 3)

/-- The unsigned round trips (R135), in both directions and at both widths. -/
def Obligations.UintRoundTrips : Prop :=
  ∀ s : State, s.args.width ∈ [2, 4] →
    (s.args.value.toNat < 256 ^ s.args.width →
      ∃ t u, exec .encUint s = .next t ∧ exec .decUint (t.setInBuf t.res.outBuf) = .next u ∧
        Reports u .ok ∧ u.res.value = s.args.value) ∧
    (s.args.inBuf.length = s.args.width →
      ∃ t u, exec .decUint s = .next t ∧
        exec .encUint (t.setArgs { t.args with value := t.res.value }) = .next u ∧
        Reports u .ok ∧ u.res.outBuf = s.args.inBuf)

/-- ENC_FLOAT at width 8 lays out the operand's own pattern, byte `i` being `(p div 256^i) mod 256`; nothing is rounded
and nothing fails (R137, R138; that a NaN's pattern is kept is decision D8, log entry 8). -/
def Obligations.EncFloatWidthEightKeepsPattern : Prop :=
  ∀ s : State, s.args.width = 8 →
    ∃ t, exec .encFloat s = .next t ∧ Reports t .ok ∧ SameButResults s t ∧ t.res.outBuf.length = 8 ∧
      ∀ i, i < 8 → t.res.outBuf[i]? = some (BitVec.ofNat 8 (s.args.value.toNat / 256 ^ i % 256))

/-- ENC_FLOAT at width 4 of an f64 exactly representable in binary32 gives that binary32 value, sign of zero, infinities
and subnormals included, under either overflow policy (R139 (a)). -/
def Obligations.EncFloatRepresentableIsExact : Prop :=
  ∀ (s : State) (p : BitVec 32), s.args.width = 4 → isNan binary32 p.toNat = false →
    SameValue binary64 s.args.value.toNat binary32 p.toNat →
    ∃ t, exec .encFloat s = .next t ∧ Reports t .ok ∧ SameButResults s t ∧ t.res.outBuf = leBytes 4 p.toNat

/-- ENC_FLOAT at width 4 of a finite f64 below the threshold gives the nearest finite binary32 value with the operand's
sign: no finite binary32 value is nearer, and one as near on the other side only if the result's last fraction bit is 0
(R139 (b); round to nearest, ties to even is decision D7). -/
def Obligations.EncFloatRoundsToNearestEven : Prop :=
  ∀ s : State, s.args.width = 4 → isFinite binary64 s.args.value.toNat = true →
    magnitude binary64 s.args.value.toNat < overflowThreshold →
    ∃ (t : State) (p : BitVec 32), exec .encFloat s = .next t ∧ Reports t .ok ∧ SameButResults s t ∧
      t.res.outBuf = leBytes 4 p.toNat ∧ isFinite binary32 p.toNat = true ∧
      fieldSign binary32 p.toNat = fieldSign binary64 s.args.value.toNat ∧
      ∀ q : BitVec 32, isFinite binary32 q.toNat = true →
        distance (magnitude binary64 s.args.value.toNat) (magnitude binary32 p.toNat) ≤
            distance (magnitude binary64 s.args.value.toNat) (magnitude binary32 q.toNat) ∧
          (distance (magnitude binary64 s.args.value.toNat) (magnitude binary32 p.toNat) =
              distance (magnitude binary64 s.args.value.toNat) (magnitude binary32 q.toNat) →
            magnitude binary32 q.toNat ≠ magnitude binary32 p.toNat → p.toNat % 2 = 0)

/-- ENC_FLOAT at width 4 of a finite f64 at or beyond the threshold: `ValueOutOfRange` or the infinity of the operand's
sign, as `F32_OVERFLOW` says (R139 (c); an open parameter of decision D7). -/
def Obligations.EncFloatOverflowFollowsPolicy : Prop :=
  ∀ s : State, s.args.width = 4 → isFinite binary64 s.args.value.toNat = true →
    overflowThreshold ≤ magnitude binary64 s.args.value.toNat →
    (s.cfg.f32Overflow = .fault →
      ∃ t, exec .encFloat s = .next t ∧ FailsWith s t (.encodingError .valueOutOfRange)) ∧
    (s.cfg.f32Overflow = .infinity →
      ∃ (t : State) (p : BitVec 32), exec .encFloat s = .next t ∧ Reports t .ok ∧ SameButResults s t ∧
        t.res.outBuf = leBytes 4 p.toNat ∧ isInf binary32 p.toNat = true ∧
        fieldSign binary32 p.toNat = fieldSign binary64 s.args.value.toNat)

/-- A NaN stays a NaN, of an unspecified pattern, through ENC_FLOAT at width 4 and DEC_FLOAT at widths 2 and 4
(R139 (d), R142). -/
def Obligations.NanStaysNan : Prop :=
  ∀ s : State,
    (s.args.width = 4 → isNan binary64 s.args.value.toNat = true →
      ∃ (t : State) (p : BitVec 32), exec .encFloat s = .next t ∧ Reports t .ok ∧ SameButResults s t ∧
        t.res.outBuf = leBytes 4 p.toNat ∧ isNan binary32 p.toNat = true) ∧
    (∀ p : BitVec 32, s.args.width = 4 → s.args.inBuf = leBytes 4 p.toNat → isNan binary32 p.toNat = true →
      ∃ t, exec .decFloat s = .next t ∧ Reports t .ok ∧ SameButResults s t ∧
        isNan binary64 t.res.value.toNat = true) ∧
    ∀ p : BitVec 16, s.args.width = 2 → s.args.inBuf = leBytes 2 p.toNat → isNan binary16 p.toNat = true →
      ∃ t, exec .decFloat s = .next t ∧ Reports t .ok ∧ SameButResults s t ∧
        isNan binary64 t.res.value.toNat = true

/-- DEC_FLOAT (R141, R142): a slice of another length than a legal width is refused; a binary16 or binary32 pattern that
is no NaN becomes the f64 of the same value, exactly; at width 8 the result is the pattern itself, which for a NaN, where
R142 admits any NaN, is decision D8 and the model's choice (log entry 8). -/
def Obligations.DecFloatIsExact : Prop :=
  ∀ s : State,
    (s.args.width ∈ [2, 4, 8] → s.args.inBuf.length ≠ s.args.width →
      ∃ t, exec .decFloat s = .next t ∧ FailsWith s t (.encodingError .sliceLength)) ∧
    (∀ p : BitVec 16, s.args.width = 2 → s.args.inBuf = leBytes 2 p.toNat → isNan binary16 p.toNat = false →
      ∃ t, exec .decFloat s = .next t ∧ Reports t .ok ∧ SameButResults s t ∧
        SameValue binary16 p.toNat binary64 t.res.value.toNat) ∧
    (∀ p : BitVec 32, s.args.width = 4 → s.args.inBuf = leBytes 4 p.toNat → isNan binary32 p.toNat = false →
      ∃ t, exec .decFloat s = .next t ∧ Reports t .ok ∧ SameButResults s t ∧
        SameValue binary32 p.toNat binary64 t.res.value.toNat) ∧
    ∀ p : BitVec 64, s.args.width = 8 → s.args.inBuf = leBytes 8 p.toNat →
      ∃ t, exec .decFloat s = .next t ∧ Reports t .ok ∧ SameButResults s t ∧ t.res.value = p

/-- The float round trips: DEC_FLOAT of ENC_FLOAT's bytes gives the operand back, at width 4 for every f64 exactly
representable in binary32 and at width 8 for every f64 (R143); at width 8 for NaN patterns too, which R143 leaves outside
its law and which rest on decision D8 and the model's choice (log entry 8). -/
def Obligations.FloatRoundTrips : Prop :=
  ∀ s : State,
    (s.args.width = 8 ∨
      (s.args.width = 4 ∧ ∃ p : BitVec 32, isNan binary32 p.toNat = false ∧
        SameValue binary64 s.args.value.toNat binary32 p.toNat)) →
    ∃ t u, exec .encFloat s = .next t ∧ exec .decFloat (t.setInBuf t.res.outBuf) = .next u ∧
      Reports u .ok ∧ u.res.value = s.args.value

/-- DEC_BOOL (R145): one byte, false iff it equals 0; any other length is refused. -/
def Obligations.DecBoolIsFalseIffZero : Prop :=
  ∀ s : State,
    (∀ b : Byte, s.args.inBuf = [b] →
      ∃ t, exec .decBool s = .next t ∧ Reports t .ok ∧ SameButResults s t ∧
        (b = 0x00 → t.res.value = 0) ∧ (b ≠ 0x00 → t.res.value = 1)) ∧
    (s.args.inBuf.length ≠ 1 →
      ∃ t, exec .decBool s = .next t ∧ FailsWith s t (.encodingError .sliceLength))

/-- ENC_BOOL (R146; the operation is the spec's own, decision D9, and that its bit is bit 0 of `ARG_VALUE` is log
entry 9): the byte, and DEC_BOOL gives the bit back. -/
def Obligations.EncBoolInvertsDecBool : Prop :=
  ∀ s : State, ∃ t u, exec .encBool s = .next t ∧ Reports t .ok ∧ SameButResults s t ∧
    t.res.outBuf = [if s.args.value.getLsbD 0 then 0x01 else 0x00] ∧
    exec .decBool (t.setInBuf t.res.outBuf) = .next u ∧
    u.res.value = if s.args.value.getLsbD 0 then 1 else 0

/-! ## Frame Codec -/

/-- FRAME_ENC (R161 to R165): marker, the body's length in four bytes, the opcode's low byte (its high byte is ignored,
decision D13), `0x00`, the payload, the two bytes CRC16 reports for the body, marker; nothing is sent. A payload longer
than `MAX_PAYLOAD`, or than the length field allows, is refused and produces no frame (decision D12, log entry 23). The
frame leaves the CRC working registers open (log entry 10). -/
def Obligations.FrameEncLaysOutCommandFrame : Prop :=
  ∀ s : State,
    (s.args.inBuf.length ≤ s.cfg.maxPayload → s.args.inBuf.length ≤ 2 ^ 32 - 3 →
      ∃ t u, exec .frameEnc s = .next t ∧ Reports t .ok ∧ SameButResultsCrc s t ∧
        exec .crc16 (s.setInBuf ([s.args.opcode.extractLsb' 0 8, 0x00] ++ s.args.inBuf)) = .next u ∧
        t.res.outBuf =
          [0x7E] ++ leBytes 4 (s.args.inBuf.length + 2) ++ [s.args.opcode.extractLsb' 0 8, 0x00] ++
            s.args.inBuf ++ [u.res.crcLow, u.res.crcHigh] ++ [0xFF]) ∧
    (s.cfg.maxPayload < s.args.inBuf.length ∨ 2 ^ 32 - 3 < s.args.inBuf.length →
      ∃ t, exec .frameEnc s = .next t ∧ FailsWith s t (.encodingError .valueOutOfRange))

/-- FRAME_DEC's tests of markers and length, in the order of its steps (R167 to R172, R176; steps 3 and 6 are decisions
D14 and D15, log entry 24): the first that fails decides the status, and no engine or port state changes (R177). -/
def Obligations.FrameDecReportsFirstFailure : Prop :=
  ∀ s : State,
    (s.args.inBuf = [] →
      ∃ t, exec .frameDec s = .next t ∧ Reports t .frameEmpty ∧ SameButResultsCrcPos s t) ∧
    (∀ first last : Byte, s.args.inBuf.head? = some first → s.args.inBuf.getLast? = some last →
      (first ≠ 0x7E ∨ last ≠ 0xFF →
        ∃ t, exec .frameDec s = .next t ∧ Reports t .frameInvalidMarkers ∧ SameButResultsCrcPos s t) ∧
      (first = 0x7E → last = 0xFF → s.args.inBuf.length < 5 →
        ∃ t, exec .frameDec s = .next t ∧ Reports t .frameLengthMismatch ∧ SameButResultsCrcPos s t)) ∧
    (∀ (b1 b2 b3 b4 : Byte) (rest : Bytes), s.args.inBuf = 0x7E :: b1 :: b2 :: b3 :: b4 :: rest →
      s.args.inBuf.getLast? = some 0xFF →
      (b1.toNat + b2.toNat * 256 + b3.toNat * 256 ^ 2 + b4.toNat * 256 ^ 3 + 3 ≠ rest.length ∨
        b1.toNat + b2.toNat * 256 + b3.toNat * 256 ^ 2 + b4.toNat * 256 ^ 3 < 3) →
      ∃ t, exec .frameDec s = .next t ∧ Reports t .frameLengthMismatch ∧ SameButResultsCrcPos s t)

/-- FRAME_DEC of a buffer with good markers and length, whatever its fields (R173 to R175): in strict mode a received
CRC pair that differs in either byte from the pair CRC16 reports for the body is a `CrcMismatch`; otherwise, and always
in lenient mode, the fields are returned as found, the received CRC pair among them. The form of the opcode and the
passing through of the error code are decisions D17 and D18 (log entry 24). That the cursor, dead after the operation
(R24), stays where R170 ends is the model's choice (log entry 10). -/
def Obligations.FrameDecChecksCrcAndReturnsFields : Prop :=
  ∀ (s : State) (opLow opHigh err lo hi : Byte) (payload : Bytes), payload.length + 3 < 256 ^ 4 →
    s.args.inBuf =
      [0x7E] ++ leBytes 4 (payload.length + 3) ++ ([opLow, opHigh, err] ++ payload) ++ [lo, hi] ++ [0xFF] →
    ∃ u, exec .crc16 (s.setInBuf ([opLow, opHigh, err] ++ payload)) = .next u ∧
      (s.cfg.crcStrict = true → (lo ≠ u.res.crcLow ∨ hi ≠ u.res.crcHigh) →
        ∃ t, exec .frameDec s = .next t ∧ Reports t .frameCrcMismatch ∧ SameButResultsCrcPos s t) ∧
      (s.cfg.crcStrict = false ∨ (lo = u.res.crcLow ∧ hi = u.res.crcHigh) →
        ∃ t, exec .frameDec s = .next t ∧ Reports t .ok ∧ SameButResultsCrcPos s t ∧
          t.res.opcode = opHigh ++ opLow ∧ t.res.errCode = err ∧ t.res.outBuf = payload ∧
          t.res.crcLow = lo ∧ t.res.crcHigh = hi ∧ t.pos = s.args.inBuf.length)

/-- The response frame of R82 decodes to its own fields, for all fields and either setting of `CRC_STRICT`: no bit of
the format is dropped or moved (R82, R85, R167). The form of the opcode and the passing through of the error code are
decisions D17 and D18 (log entry 24). That the cursor, dead after the operation (R24), stays where R170 ends is the
model's choice (log entry 10). -/
def Obligations.ResponseFrameDecodesToItsFields : Prop :=
  ∀ (s : State) (opLow opHigh err : Byte) (payload : Bytes),
    (Instr.frameRsp opLow opHigh err payload).wellFormed = true →
    s.args.inBuf = responseFrame s.cfg opLow opHigh err payload →
    ∃ t, exec .frameDec s = .next t ∧ Reports t .ok ∧ SameButResultsCrcPos s t ∧
      t.res.opcode = opHigh ++ opLow ∧ t.res.errCode = err ∧ t.res.outBuf = payload ∧
      t.res.crcLow = (crc16 s.cfg ([opLow, opHigh, err] ++ payload)).low ∧
      t.res.crcHigh = (crc16 s.cfg ([opLow, opHigh, err] ++ payload)).high ∧ t.pos = payload.length + 11

/-- What FRAME_DEC makes of FRAME_ENC's frame (R178): the payload's first byte is read as the error code; with an empty
payload the frame is refused (R172, decision D15, log entry 24). -/
def Obligations.FrameDecOfFrameEnc : Prop :=
  ∀ (s : State), s.args.inBuf.length ≤ payloadBound s.cfg →
    ∃ t u, exec .frameEnc s = .next t ∧ exec .frameDec (t.setInBuf t.res.outBuf) = .next u ∧
      (s.args.inBuf = [] → Reports u .frameLengthMismatch) ∧
      ∀ (b : Byte) (rest : Bytes), s.args.inBuf = b :: rest →
        Reports u .ok ∧ u.res.opcode = (s.args.opcode.extractLsb' 0 8).setWidth 16 ∧ u.res.errCode = b ∧
          u.res.outBuf = rest

/-- The length test of FRAME_DEC (R171), with good markers and a length field present. Where the declared length plus 3
differs from the number of bytes after the field, the sum never wrapping, it is a `LengthMismatch`; otherwise the test
passes (a declared length below 3 fails the next one, R172), the declared length is the buffer's length less 8, and any
change to one of the four length bytes is a `LengthMismatch`, never a silent truncation. -/
def Obligations.ChangedLengthByteIsRefused : Prop :=
  ∀ (s : State) (b1 b2 b3 b4 : Byte) (rest : Bytes) (declared : Nat),
    s.args.inBuf = 0x7E :: b1 :: b2 :: b3 :: b4 :: rest → s.args.inBuf.getLast? = some 0xFF →
    declared = b1.toNat + b2.toNat * 256 + b3.toNat * 256 ^ 2 + b4.toNat * 256 ^ 3 →
    (declared + 3 ≠ rest.length → ∃ t, exec .frameDec s = .next t ∧ Reports t .frameLengthMismatch) ∧
    (declared + 3 = rest.length →
      (3 ≤ declared → ∃ t, exec .frameDec s = .next t ∧ ¬Reports t .frameLengthMismatch) ∧
      declared + 8 = s.args.inBuf.length ∧
      ∀ (j : Nat) (b : Byte), 1 ≤ j → j ≤ 4 → s.args.inBuf[j]? ≠ some b →
        ∃ t, exec .frameDec (s.setInBuf (s.args.inBuf.set j b)) = .next t ∧ Reports t .frameLengthMismatch)

/-! ## Serial Transaction Engine -/

/-- START (R195; decision D26 for a second START): `started` is set, `Ok` is reported, and nothing else of the engine
changes. -/
def Obligations.StartSetsStarted : Prop :=
  ∀ s : State, ∃ t, exec .start s = .next t ∧ Reports t .ok ∧
    t = { s with eng := { s.eng with started := true }, res := t.res, draws := t.draws }

/-- TRANSACTION accepted (R200 steps 3 to 5, R192): the guard is set, all of `IN_BUF` is written, time and timeout are
latched; `latest` and `acc` are not cleared (R207), no result port is written yet. The premise of the model is that the
port accepts every write, whole (decision D30, log entry 21, unsafe; U22). That `t0` is latched at the write, and that a
TRANSACTION before START is accepted too, are decisions D22 and D25 (log entry 30). -/
def Obligations.TransactionIsAccepted : Prop :=
  ∀ s : State, s.eng.rxFault = false → s.eng.busy = false →
    exec .transaction s = .next
      { s with
        env := { s.env with txStream := s.env.txStream ++ s.args.inBuf },
        eng :=
          { s.eng with busy := true, txnState := .reading, t0 := s.env.now, timeoutLatched := s.args.timeout } }

/-- TRANSACTION refused (R200 steps 1 and 2, R261, R262; decisions D21, D24, log entry 30): `RxOverflow` before `Busy`,
nothing is written and no state changes. -/
def Obligations.TransactionIsRefused : Prop :=
  ∀ s : State,
    (s.eng.rxFault = true → ∃ t, exec .transaction s = .next t ∧ FailsWith s t .rxOverflow) ∧
    (s.eng.rxFault = false → s.eng.busy = true → ∃ t, exec .transaction s = .next t ∧ FailsWith s t .busy)

/-- TXN_POLL, data (R202): the slot is read and cleared in one step and the buffer reported. That this holds whatever
the time, data being tested before the deadline, is R201's decision D22 (log entry 30). -/
def Obligations.PollTakesPublishedBuffer : Prop :=
  ∀ s : State, s.eng.busy = true → s.eng.latest ≠ [] →
    ∃ t, exec .txnPoll s = .next t ∧ Reports t .ok ∧ t.res.outBuf = s.eng.latest ∧
      t = { s with
            eng := { s.eng with latest := [], busy := false, txnState := .dataReady }, res := t.res,
            draws := t.draws }

/-- TXN_POLL, timeout (R203): an empty result and `TransactionTimeout`; nothing else changes. -/
def Obligations.PollTimesOut : Prop :=
  ∀ s : State, s.eng.busy = true → s.eng.latest = [] → s.env.now - s.eng.t0 ≥ s.eng.timeoutLatched →
    ∃ t, exec .txnPoll s = .next t ∧ Reports t .transactionTimeout ∧ t.res.outBuf = [] ∧
      t = { s with eng := { s.eng with busy := false, txnState := .timedOut }, res := t.res, draws := t.draws }

/-- TXN_POLL, wait (R204): no state changes. -/
def Obligations.PollWaits : Prop :=
  ∀ s : State, s.eng.busy = true → s.eng.latest = [] → s.env.now - s.eng.t0 < s.eng.timeoutLatched →
    exec .txnPoll s = .next s

/-- The bounds of a wait (R211, R212): a poll ends a transaction with a timeout no sooner than the configured timeout;
once time has advanced by the latched timeout, one poll ends the pending transaction; and under any order of events in
which the two assumptions of R212 hold, polls being taken and `now` growing without bound, every pending transaction
ends, by data, by timeout, or by RESET (R292). The assumptions are premises, the model enforces neither (decision D23,
log entry 18). -/
def Obligations.PendingTransactionEndsInTime : Prop :=
  (∀ s t : State, exec .txnPoll s = .next t → s.eng.txnState = .reading → t.eng.txnState = .timedOut →
    s.eng.latest = [] ∧ s.eng.timeoutLatched ≤ s.env.now - s.eng.t0) ∧
  (∀ (s : State) (d : Time), s.eng.busy = true → s.eng.t0 ≤ s.env.now → s.eng.timeoutLatched ≤ d →
    ∃ t u, exec (.tick d) s = .next t ∧ exec .txnPoll t = .next u ∧ u.eng.busy = false ∧
      (u.eng.txnState = .dataReady ∨ u.eng.txnState = .timedOut)) ∧
  ∀ (order : Nat → Event) (run : Nat → State) (n : Nat), Follows order run → PollsAreTaken order run →
    TimeIsUnbounded run → (run n).eng.busy = true →
    ∃ m, n ≤ m ∧ (∀ j, n ≤ j → j ≤ m → (run j).eng.busy = true) ∧ (run (m + 1)).eng.busy = false ∧
      ((run (m + 1)).eng.txnState = .dataReady ∨ (run (m + 1)).eng.txnState = .timedOut ∨
        Takes order run m .reset)

/-- The stale-buffer hazard (R207, R300): a buffer already published when a transaction is accepted is what its first
poll returns, whatever was written. That it does so however short the timeout is decision D22 (log entry 30); that all
of `IN_BUF` is written has the premise that the port accepts every write (decision D30, log entry 21, unsafe; U22). -/
def Obligations.StaleBufferIsReturned : Prop :=
  ∀ s : State, s.eng.rxFault = false → s.eng.busy = false → s.eng.latest ≠ [] →
    ∃ t u, exec .transaction s = .next t ∧ exec .txnPoll t = .next u ∧ Reports u .ok ∧
      u.res.outBuf = s.eng.latest ∧ u.eng.latest = [] ∧ u.eng.acc = s.eng.acc ∧
      u.env.rxPending = s.env.rxPending ∧ u.env.txStream = s.env.txStream ++ s.args.inBuf

/-- RD_STEP with bytes pending (R193, R196, R197), for every `k`: some count from 1 to
`min(len(rx_pending), RX_CHUNK_MAX)` of them, in order and none skipped, moves to the end of `acc`, and nothing else
changes; a `k` in that range is the count (decision D20). What another `k` does, the nearest count in the range, is the
model's choice (log entry 29). -/
def Obligations.ReaderAppendsPendingBytes : Prop :=
  ∀ (s : State) (k : Nat), s.eng.started = true → s.eng.rxFault = false → s.env.rxPending ≠ [] →
    1 ≤ s.cfg.rxChunkMax →
    ∃ n, 1 ≤ n ∧ n ≤ s.env.rxPending.length ∧ n ≤ s.cfg.rxChunkMax ∧
      (1 ≤ k → k ≤ s.env.rxPending.length → k ≤ s.cfg.rxChunkMax → n = k) ∧
      (s.env.rxPending.length ≤ k ∨ s.cfg.rxChunkMax ≤ k → n = min s.env.rxPending.length s.cfg.rxChunkMax) ∧
      (k = 0 → n = 1) ∧
      ((∀ m, s.cfg.rxBufMax = some m → s.eng.acc.length + n ≤ m) →
        exec (.rdStep k) s = .next
          { s with
            eng := { s.eng with acc := s.eng.acc ++ s.env.rxPending.take n },
            env := { s.env with rxPending := s.env.rxPending.drop n } })

/-- RD_STEP at silence (R198): a non-empty accumulation buffer is published and reset, an empty one changes nothing.
That the publish overwrites a buffer no transaction has taken is decision D19 (log entry 30). And R212: under any order
of events in which reads are taken while nothing is pending, a received byte is published, with all that has been
accumulated up to then, unless RESET or an overflow stops the reader first; that assumption is a premise (log
entry 18). -/
def Obligations.ReaderPublishesAtSilence : Prop :=
  (∀ (s : State) (k : Nat), s.eng.started = true → s.eng.rxFault = false → s.env.rxPending = [] →
    (s.eng.acc ≠ [] →
      exec (.rdStep k) s = .next { s with eng := { s.eng with latest := s.eng.acc, acc := [] } }) ∧
    (s.eng.acc = [] → exec (.rdStep k) s = .next s)) ∧
  ∀ (order : Nat → Event) (run : Nat → State) (n : Nat), Follows order run → QuietReadsAreTaken order run →
    readerEnabled (run n) = true → (run n).eng.acc ≠ [] →
    ∃ m, n ≤ m ∧ (run n).eng.acc <+: (run m).eng.acc ∧
      (((run (m + 1)).eng.latest = (run m).eng.acc ∧ (run (m + 1)).eng.acc = []) ∨
        readerEnabled (run (m + 1)) = false)

/-- RD_STEP past `RX_BUF_MAX` (R199; decision D21), for every `k`: where the count read makes `acc` too long, the sticky
fault is set and nothing else changes but `acc` and the bytes read. The count is `k` where R193 admits it; that another
`k` gives the nearest count it admits is the model's choice (log entry 29). R199 calls `acc` and the bytes read
unspecified: `acc` is left open here, and that the bytes read have left `rx_pending`, as `PortRead` takes them (R193), is
the model's choice (log entry 31). -/
def Obligations.ReaderOverflowSetsFault : Prop :=
  ∀ (s : State) (k m : Nat), s.eng.started = true → s.eng.rxFault = false → s.env.rxPending ≠ [] →
    1 ≤ s.cfg.rxChunkMax → s.cfg.rxBufMax = some m →
    ∃ n, 1 ≤ n ∧ n ≤ s.env.rxPending.length ∧ n ≤ s.cfg.rxChunkMax ∧
      (1 ≤ k → k ≤ s.env.rxPending.length → k ≤ s.cfg.rxChunkMax → n = k) ∧
      (s.env.rxPending.length ≤ k ∨ s.cfg.rxChunkMax ≤ k → n = min s.env.rxPending.length s.cfg.rxChunkMax) ∧
      (k = 0 → n = 1) ∧
      (m < s.eng.acc.length + n →
        ∃ t, exec (.rdStep k) s = .next t ∧
          t = { s with
                eng := { s.eng with acc := t.eng.acc, rxFault := true },
                env := { s.env with rxPending := s.env.rxPending.drop n }, draws := t.draws })

/-- A step that is not enabled changes nothing (R196, R201; that its turn passes so is log entry 12). -/
def Obligations.DisabledStepsChangeNothing : Prop :=
  ∀ (s : State) (k : Nat),
    (s.eng.started = false ∨ s.eng.rxFault = true → exec (.rdStep k) s = .next s) ∧
    (s.eng.busy = false → exec .txnPoll s = .next s)

/-- ENV_RX appends the delivered bytes to `rx_pending` (R193), TICK advances `now` (R194), and the arrival of a response
frame is an ENV_RX with the bytes of R82 (log entry 14); nothing else changes. That the terms the spec has no step for,
the empty delivery, the TICK of 0 and a response frame too long for its length field, which then holds the length modulo
2^32, run so too is the model's choice (log entry 30). -/
def Obligations.EnvironmentDeliversAndTicks : Prop :=
  ∀ (s : State) (e : Bytes) (d : Time) (opLow opHigh err : Byte) (payload : Bytes),
    exec (.envRx e) s = .next { s with env := { s.env with rxPending := s.env.rxPending ++ e } } ∧
    exec (.tick d) s = .next { s with env := { s.env with now := s.env.now + d } } ∧
    ∃ u, exec .crc16 (s.setInBuf ([opLow, opHigh, err] ++ payload)) = .next u ∧
      exec (.frameRsp opLow opHigh err payload) s = .next
        { s with
          env :=
            { s.env with
              rxPending := s.env.rxPending ++ ([0x7E] ++ leBytes 4 (payload.length + 3) ++
                ([opLow, opHigh, err] ++ payload) ++ [u.res.crcLow, u.res.crcHigh] ++ [0xFF]) } }

/-! ## Reserved codes, opcode constants, statuses -/

/-- A request with a reserved `OP_SEL` code changes no state and reports `IllegalOperation` (R99 (1), R263; decision
D37). -/
def Obligations.ReservedCodesReportIllegalOperation : Prop :=
  ∀ (s : State) (i : Instr),
    i ∈ ([.reservedB, .reservedC, .reservedD, .reservedE, .reservedF] : List Instr) →
    ∃ t, exec i s = .next t ∧ FailsWith s t .illegalOperation

/-- The seven opcode constants, as the facade puts them on `ARG_OPCODE` (R98; that they act so is log entry 15), and the
byte FRAME_ENC then sends at offset 5. -/
def Obligations.OpcodeConstantsSelectFrameByte : Prop :=
  ∀ (s : State) (i : Instr) (b : Byte),
    (i, b) ∈ ([(.opcLogin, 0x80), (.opcLogout, 0x81), (.opcTestCommand, 0xD0), (.opcOnlineAdjust, 0xD1),
      (.opcReadbackSampling, 0xD2), (.opcStopTest, 0xD3), (.opcReadbackError, s.cfg.opcReadbackError)] :
      List (Instr × Byte)) →
    exec i s = .next { s with args := { s.args with opcode := b.setWidth 16 } } ∧
    (s.args.inBuf.length ≤ payloadBound s.cfg →
      ∃ t, exec .frameEnc (s.setArgOpcode (b.setWidth 16)) = .next t ∧ t.res.outBuf[5]? = some b)

/-- The status codes of R97 with the `INFO` of R252: delivering a status writes both ports (R267) and nothing else (log
entry 16). -/
def Obligations.StatusCodesAreDelivered : Prop :=
  ∀ (s : State) (i : Instr) (code info : BitVec 4),
    (i, code, info) ∈
      ([(.statusOk, 0x0, 0x0), (.statusFrameEmpty, 0x1, 0x0), (.statusFrameInvalidMarkers, 0x2, 0x0),
        (.statusFrameLengthMismatch, 0x3, 0x0), (.statusFrameCrcMismatch, 0x4, 0x0),
        (.statusEncodingError .unsupportedWidth, 0x5, 0x1), (.statusEncodingError .sliceLength, 0x5, 0x2),
        (.statusEncodingError .valueOutOfRange, 0x5, 0x3), (.statusRegisterLengthMismatch, 0x6, 0x0),
        (.statusRangeError, 0x7, 0x0), (.statusTransactionTimeout, 0x8, 0x0), (.statusBusy, 0x9, 0x0),
        (.statusRxOverflow, 0xA, 0x0), (.statusIllegalOperation, 0xF, 0x0)] :
        List (Instr × BitVec 4 × BitVec 4)) →
    exec i s = .next { s with res := { s.res with status := code, info := info } }

/-! ## EXCHANGE and the command frame -/

/-- EXCHANGE and FRAME_CMD where the payload fits and the engine is free (R102 (1), R200; log entries 13, 17): the frame
FRAME_ENC gives is in `IN_BUF` and on the wire, and the transaction is pending; EXCHANGE waits for it. The premise of the
model is that the port accepts every write, whole (decision D30, log entry 21, unsafe; U22); that `OP_SEL` keeps its old
value is the model's choice (log entry 33). -/
def Obligations.ExchangeSendsCommandFrame : Prop :=
  ∀ s : State, s.args.inBuf.length ≤ payloadBound s.cfg → s.eng.rxFault = false → s.eng.busy = false →
    ∃ f t, exec .frameEnc s = .next f ∧
      t = { f with
            args := { s.args with inBuf := f.res.outBuf },
            env := { s.env with txStream := s.env.txStream ++ f.res.outBuf },
            eng :=
              { s.eng with
                busy := true, txnState := .reading, t0 := s.env.now, timeoutLatched := s.args.timeout } } ∧
      exec .frameCmd s = .next t ∧ exec .exchange s = .next { t with exchanging := true }

/-- EXCHANGE fails as its first failing operation does (R102 (1)): FRAME_ENC's `ValueOutOfRange`, else TRANSACTION's
`RxOverflow` or `Busy`; nothing is written to the port and a pending transaction is not disturbed. That FRAME_CMD is
FRAME_ENC followed by TRANSACTION and fails as they do is the model's choice (log entry 13), as is that EXCHANGE then
does not wait (log entry 17), and that `OP_SEL` keeps its old value (log entry 33). -/
def Obligations.ExchangeFailsAsItsParts : Prop :=
  ∀ (s : State) (i : Instr), i ∈ ([.exchange, .frameCmd] : List Instr) →
    (payloadBound s.cfg < s.args.inBuf.length →
      ∃ t, exec i s = .next t ∧ FailsWith s t (.encodingError .valueOutOfRange)) ∧
    (s.args.inBuf.length ≤ payloadBound s.cfg → s.eng.rxFault = true →
      ∃ t, exec i s = .next t ∧ Reports t .rxOverflow ∧ t.eng = s.eng ∧ t.env = s.env ∧
        t.exchanging = s.exchanging) ∧
    (s.args.inBuf.length ≤ payloadBound s.cfg → s.eng.rxFault = false → s.eng.busy = true →
      ∃ t, exec i s = .next t ∧ Reports t .busy ∧ t.eng = s.eng ∧ t.env = s.env ∧
        t.exchanging = s.exchanging)

/-- EXCHANGE goes on (R102 (1); that the host does so is log entry 17). The poll that takes the buffer for a waiting
EXCHANGE ends its wait and keeps the buffer; a poll that times out leaves its failure as the result; after a poll that
waits the EXCHANGE waits on. This holds of a scheduled poll, and of the poll of a freely chosen agent with nothing
scheduled (log entry 6). Between the take and the FRAME_DEC any agent may step (R66): no instruction touches the buffers
kept, and whenever the host goes on, scheduled or freely chosen, FRAME_DEC runs on the oldest of them. -/
def Obligations.ExchangeDecodesReceivedBuffer : Prop :=
  (∀ (s : State) (rest : List Event),
    (s.schedule = .act .txnPoll :: rest ∨
      (s.schedule = [] ∧ rest = [] ∧ autonomous s.draws = .act .txnPoll)) →
    s.exchanging = true → s.eng.busy = true →
    (s.eng.latest ≠ [] →
      ∃ t, step s = .next t ∧ Reports t .ok ∧ t.res.outBuf = s.eng.latest ∧ t.exchanging = false ∧
        t.toDecode = s.toDecode ++ [s.eng.latest] ∧ t.schedule = rest) ∧
    (s.eng.latest = [] → s.eng.timeoutLatched ≤ s.env.now - s.eng.t0 →
      ∃ t, step s = .next t ∧ Reports t .transactionTimeout ∧ t.exchanging = false ∧ t.toDecode = s.toDecode ∧
        t.schedule = rest) ∧
    (s.eng.latest = [] → s.env.now - s.eng.t0 < s.eng.timeoutLatched →
      ∃ t, step s = .next t ∧ t = { s with schedule := rest, draws := t.draws })) ∧
  (∀ (i : Instr) (s t : State), exec i s = .next t → t.toDecode = s.toDecode) ∧
  ∀ (s : State) (rest : List Event) (b : Bytes) (more : List Bytes),
    (s.schedule = .resume :: rest ∨ (s.schedule = [] ∧ rest = [] ∧ autonomous s.draws = .resume)) →
    s.toDecode = b :: more → s.exchanging = false →
    ∃ d t, step s = .next t ∧
      exec .frameDec
        { s with opSel := 0x8, args := { s.args with inBuf := b }, toDecode := more, schedule := rest, draws := d } =
        .next t

/-! ## Register sets of the boundary -/

/-- SERIALIZE (R235). Of the test-configuration set (R232, R238), for any values: where no float overflows under
`F32_OVERFLOW = fault`, and the unsigned values fit or `UINT_OVERFLOW = truncate`, the ten fields at their widths, 26
bytes, little-endian, in declared order: unsigned fields their low bytes, float fields what ENC_FLOAT makes of them, the
meter-constant either, as the open `METER_CONSTANT_TYPE` says (decision D35). Of any set: where some field's value
overflows so, SERIALIZE fails as that field's encode does (R132, R139, R235) and nothing else changes. That the bytes
stand in `OUT_BUF`, and that the operand ports and `OP_SEL` stay, is the model's choice (log entry 32). -/
def Obligations.TestConfigSerializesInOrder : Prop :=
  ∀ s : State, SetsKeepLayout s →
    (∀ ps es vr voltage current factor unit frequency meter cycle : BitVec 64,
      s.testConfig.map Reg.value = [ps, es, vr, voltage, current, factor, unit, frequency, meter, cycle] →
      (∀ r ∈ s.testConfig, ¬RegOverflows s r) →
      ∃ (t : State) (pv pc pf pq pm : BitVec 32), exec (.serialize .testConfig) s = .next t ∧ Reports t .ok ∧
        SameButResults s t ∧
        t.res.outBuf =
          [ps.setWidth 8, es.setWidth 8, vr.setWidth 8] ++ leBytes 4 pv.toNat ++ leBytes 4 pc.toNat ++
            leBytes 4 pf.toNat ++ [unit.setWidth 8] ++ leBytes 4 pq.toNat ++ leBytes 4 pm.toNat ++
            [cycle.setWidth 8, (cycle >>> 8).setWidth 8] ∧
        t.res.outBuf.length = 26 ∧ Narrows s voltage pv ∧ Narrows s current pc ∧ Narrows s factor pf ∧
        Narrows s frequency pq ∧ (s.cfg.meterType = .unsigned → pm = meter.setWidth 32) ∧
        (s.cfg.meterType = .float → Narrows s meter pm)) ∧
    ∀ (set : SetId) (r : Reg), r ∈ s.regSet set → RegOverflows s r →
      ∃ t, exec (.serialize set) s = .next t ∧ FailsWith s t (.encodingError .valueOutOfRange)

/-- DESERIALIZE of a payload of the wrong length: `RegisterError::LengthMismatch`, and no field is assigned (R236,
R259): for the sampling set every length but 80, for the error set every length but 13, for the test-configuration set
every length but 26 (R232 to R234). Of 26 bytes the test-configuration set takes each field from its own chunk (R236,
R238): the unsigned fields the bytes' value, the floats what DEC_FLOAT makes of their patterns, the meter-constant
either, as the open `METER_CONSTANT_TYPE` says (decision D35). The ports are the model's choice (log entry 32). -/
def Obligations.DeserializeRefusesWrongLength : Prop :=
  ∀ s : State, SetsKeepLayout s →
    (s.args.inBuf.length ≠ 80 →
      ∃ t, exec (.deserialize .sampling) s = .next t ∧ FailsWith s t .registerLengthMismatch) ∧
    (s.args.inBuf.length ≠ 13 →
      ∃ t, exec (.deserialize .errorSet) s = .next t ∧ FailsWith s t .registerLengthMismatch) ∧
    (s.args.inBuf.length ≠ 26 →
      ∃ t, exec (.deserialize .testConfig) s = .next t ∧ FailsWith s t .registerLengthMismatch) ∧
    ∀ (ps es vr unit : Byte) (pv pc pf pq pm : BitVec 32) (cycle : BitVec 16),
      s.args.inBuf =
        [ps, es, vr] ++ leBytes 4 pv.toNat ++ leBytes 4 pc.toNat ++ leBytes 4 pf.toNat ++ [unit] ++
          leBytes 4 pq.toNat ++ leBytes 4 pm.toNat ++ leBytes 2 cycle.toNat →
      ∃ (t : State) (voltage current factor frequency meter : BitVec 64),
        exec (.deserialize .testConfig) s = .next t ∧ Reports t .ok ∧
        t = { s with testConfig := t.testConfig, res := t.res, draws := t.draws } ∧
        t.testConfig.map Reg.ty = s.testConfig.map Reg.ty ∧
        t.testConfig.map Reg.value =
          [ps.setWidth 64, es.setWidth 64, vr.setWidth 64, voltage, current, factor, unit.setWidth 64, frequency,
            meter, cycle.setWidth 64] ∧
        Converts binary32 pv.toNat binary64 voltage.toNat ∧ Converts binary32 pc.toNat binary64 current.toNat ∧
        Converts binary32 pf.toNat binary64 factor.toNat ∧ Converts binary32 pq.toNat binary64 frequency.toNat ∧
        (s.cfg.meterType = .unsigned → meter = pm.setWidth 64) ∧
        (s.cfg.meterType = .float → Converts binary32 pm.toNat binary64 meter.toNat)

/-- DESERIALIZE of the sampling set (R233, R236): 80 bytes, four to a field, each field the f64 of its chunk's binary32
value, a NaN some NaN (R142); without NaNs, which R143 leaves out, serialising the set gives the payload back (R143).
The ports are the model's choice (log entry 32). -/
def Obligations.SamplingDeserializesAndSerializesBack : Prop :=
  ∀ (s : State) (ps : List (BitVec 32)), SetsKeepLayout s → ps.length = 20 →
    s.args.inBuf = ps.flatMap (fun p => leBytes 4 p.toNat) →
    ∃ t u, exec (.deserialize .sampling) s = .next t ∧ Reports t .ok ∧
      t = { s with sampling := t.sampling, res := t.res, draws := t.draws } ∧
      List.Forall₂ (fun (r : Reg) (p : BitVec 32) =>
        r.ty = .float 4 ∧ Converts binary32 p.toNat binary64 r.value.toNat) t.sampling ps ∧
      ((∀ p ∈ ps, isNan binary32 p.toNat = false) →
        exec (.serialize .sampling) t = .next u ∧ Reports u .ok ∧ u.res.outBuf = s.args.inBuf)

/-- The error set both ways (R234, in the order of decision D34). DESERIALIZE (R236) of 13 bytes: the boolean false iff
its byte is 0, then three binary32 values, each widened exactly, a NaN to some NaN. SERIALIZE (R235), where no float
overflows: the boolean's byte, then what ENC_FLOAT makes of the three. That a Bool field, which no outbound set has, is
encoded as ENC_BOOL encodes bit 0 is the model's choice (log entry 19), as are the ports (log entry 32). -/
def Obligations.ErrorSetDeserializes : Prop :=
  ∀ s : State, SetsKeepLayout s →
    (∀ (b : Byte) (p1 p2 p3 : BitVec 32),
      s.args.inBuf = [b] ++ leBytes 4 p1.toNat ++ leBytes 4 p2.toNat ++ leBytes 4 p3.toNat →
      ∃ (t : State) (v1 v2 v3 : BitVec 64), exec (.deserialize .errorSet) s = .next t ∧ Reports t .ok ∧
        t = { s with errorSet := t.errorSet, res := t.res, draws := t.draws } ∧
        t.errorSet = [⟨.bool, if b = 0x00 then 0 else 1⟩, ⟨.float 4, v1⟩, ⟨.float 4, v2⟩, ⟨.float 4, v3⟩] ∧
        Converts binary32 p1.toNat binary64 v1.toNat ∧ Converts binary32 p2.toNat binary64 v2.toNat ∧
        Converts binary32 p3.toNat binary64 v3.toNat) ∧
    ∀ flag v1 v2 v3 : BitVec 64, s.errorSet.map Reg.value = [flag, v1, v2, v3] →
      (∀ r ∈ s.errorSet, ¬RegOverflows s r) →
      ∃ (t : State) (p1 p2 p3 : BitVec 32), exec (.serialize .errorSet) s = .next t ∧ Reports t .ok ∧
        SameButResults s t ∧
        t.res.outBuf =
          [if flag.getLsbD 0 then 0x01 else 0x00] ++ leBytes 4 p1.toNat ++ leBytes 4 p2.toNat ++
            leBytes 4 p3.toNat ∧
        Narrows s v1 p1 ∧ Narrows s v2 p2 ∧ Narrows s v3 p3
end

