-- ==== Sys2Proof/Laws/Bytes.lean ====
section
/-! SUPPORT. The laws of little-endian layout and assembly (R53) and of subsequences (R10). -/

namespace Sys2Proof.Machine

@[simp] theorem leBytes_zero (v : Nat) : leBytes 0 v = [] := rfl

theorem leBytes_succ (w v : Nat) : leBytes (w + 1) v = BitVec.ofNat 8 v :: leBytes w (v / 256) := rfl

@[simp] theorem leValue_nil : leValue [] = 0 := rfl

@[simp] theorem leValue_cons (b : Byte) (rest : Bytes) : leValue (b :: rest) = b.toNat + 256 * leValue rest := rfl

/-- The layout has the width's number of bytes. -/
@[simp] theorem leBytes_length (w v : Nat) : (leBytes w v).length = w := by
  induction w generalizing v with
  | zero => rfl
  | succ w ih => simp [leBytes_succ, ih]

/-- Byte `i` is `(v div 256^i) mod 256` (R53). -/
theorem leBytes_getElem? (w v i : Nat) (h : i < w) :
    (leBytes w v)[i]? = some (BitVec.ofNat 8 (v / 256 ^ i % 256)) := by
  induction w generalizing v i with
  | zero => omega
  | succ w ih =>
    cases i with
    | zero => simp [leBytes_succ, ← BitVec.toNat_inj]
    | succ i => simp [leBytes_succ, ih (v / 256) i (by omega), Nat.div_div_eq_div_mul, pow_succ, Nat.mul_comm]

/-- Assembly undoes layout, up to the width (R53, R135). -/
theorem leValue_leBytes (w v : Nat) : leValue (leBytes w v) = v % 256 ^ w := by
  induction w generalizing v with
  | zero => simp [Nat.mod_one]
  | succ w ih =>
    have hb : (BitVec.ofNat 8 v).toNat = v % 256 := BitVec.toNat_ofNat v 8
    have hp : 256 ^ (w + 1) = 256 * 256 ^ w := Nat.pow_succ'
    rw [leBytes_succ, leValue_cons, ih, hb, hp, Nat.mod_mul]

theorem leValue_leBytes_of_lt {w v : Nat} (h : v < 256 ^ w) : leValue (leBytes w v) = v := by
  rw [leValue_leBytes, Nat.mod_eq_of_lt h]

/-- An assembled value is below `256^w` (R134). -/
theorem leValue_lt (b : Bytes) : leValue b < 256 ^ b.length := by
  induction b with
  | nil => simp
  | cons x rest ih =>
    have hx := x.isLt
    simp only [leValue_cons, List.length_cons, pow_succ]
    omega

/-- Layout undoes assembly (R135). -/
theorem leBytes_leValue (b : Bytes) : leBytes b.length (leValue b) = b := by
  induction b with
  | nil => rfl
  | cons x rest ih =>
    have hx := x.isLt
    have hd : (x.toNat + 256 * leValue rest) / 256 = leValue rest := by omega
    simp only [List.length_cons, leBytes_succ, leValue_cons, hd, ih, List.cons.injEq, and_true]
    apply BitVec.eq_of_toNat_eq
    simp only [BitVec.toNat_ofNat]
    omega

/-- The middle of three pieces is the subsequence between their lengths. -/
theorem slice_append (a b c : Bytes) : slice (a ++ b ++ c) a.length (a.length + b.length) = b := by
  simp [slice]

/-- A byte of the second of two pieces. -/
theorem byteAt_append (a b : Bytes) (i : Nat) : byteAt (a ++ b) (a.length + i) = byteAt b i := by
  simp [byteAt, List.getD, List.getElem?_append_right]

end Sys2Proof.Machine
end

