-- ==== Sys2Proof/Laws/State.lean ====
section
/-! SUPPORT. One lemma per field per update of the state, true by rfl, so that no later proof unfolds a record
update; and the read-after-write laws of the register sets. -/

namespace Sys2Proof.Machine

variable (s : State)

/-! `State.setOpSel` -/

@[simp] theorem setOpSel_opSel (c : BitVec 4) : (s.setOpSel c).opSel = c := rfl
@[simp] theorem setOpSel_args (c : BitVec 4) : (s.setOpSel c).args = s.args := rfl
@[simp] theorem setOpSel_res (c : BitVec 4) : (s.setOpSel c).res = s.res := rfl
@[simp] theorem setOpSel_crcHigh (c : BitVec 4) : (s.setOpSel c).crcHigh = s.crcHigh := rfl
@[simp] theorem setOpSel_crcLow (c : BitVec 4) : (s.setOpSel c).crcLow = s.crcLow := rfl
@[simp] theorem setOpSel_pos (c : BitVec 4) : (s.setOpSel c).pos = s.pos := rfl
@[simp] theorem setOpSel_eng (c : BitVec 4) : (s.setOpSel c).eng = s.eng := rfl
@[simp] theorem setOpSel_env (c : BitVec 4) : (s.setOpSel c).env = s.env := rfl
@[simp] theorem setOpSel_cfg (c : BitVec 4) : (s.setOpSel c).cfg = s.cfg := rfl
@[simp] theorem setOpSel_testConfig (c : BitVec 4) : (s.setOpSel c).testConfig = s.testConfig := rfl
@[simp] theorem setOpSel_sampling (c : BitVec 4) : (s.setOpSel c).sampling = s.sampling := rfl
@[simp] theorem setOpSel_errorSet (c : BitVec 4) : (s.setOpSel c).errorSet = s.errorSet := rfl
@[simp] theorem setOpSel_exchanging (c : BitVec 4) : (s.setOpSel c).exchanging = s.exchanging := rfl
@[simp] theorem setOpSel_toDecode (c : BitVec 4) : (s.setOpSel c).toDecode = s.toDecode := rfl
@[simp] theorem setOpSel_schedule (c : BitVec 4) : (s.setOpSel c).schedule = s.schedule := rfl
@[simp] theorem setOpSel_draws (c : BitVec 4) : (s.setOpSel c).draws = s.draws := rfl
@[simp] theorem setOpSel_regSet (c : BitVec 4) (id : SetId) : (s.setOpSel c).regSet id = s.regSet id := by cases id <;> rfl

/-! `State.setArgs` -/

@[simp] theorem setArgs_opSel (a : Operands) : (s.setArgs a).opSel = s.opSel := rfl
@[simp] theorem setArgs_args (a : Operands) : (s.setArgs a).args = a := rfl
@[simp] theorem setArgs_res (a : Operands) : (s.setArgs a).res = s.res := rfl
@[simp] theorem setArgs_crcHigh (a : Operands) : (s.setArgs a).crcHigh = s.crcHigh := rfl
@[simp] theorem setArgs_crcLow (a : Operands) : (s.setArgs a).crcLow = s.crcLow := rfl
@[simp] theorem setArgs_pos (a : Operands) : (s.setArgs a).pos = s.pos := rfl
@[simp] theorem setArgs_eng (a : Operands) : (s.setArgs a).eng = s.eng := rfl
@[simp] theorem setArgs_env (a : Operands) : (s.setArgs a).env = s.env := rfl
@[simp] theorem setArgs_cfg (a : Operands) : (s.setArgs a).cfg = s.cfg := rfl
@[simp] theorem setArgs_testConfig (a : Operands) : (s.setArgs a).testConfig = s.testConfig := rfl
@[simp] theorem setArgs_sampling (a : Operands) : (s.setArgs a).sampling = s.sampling := rfl
@[simp] theorem setArgs_errorSet (a : Operands) : (s.setArgs a).errorSet = s.errorSet := rfl
@[simp] theorem setArgs_exchanging (a : Operands) : (s.setArgs a).exchanging = s.exchanging := rfl
@[simp] theorem setArgs_toDecode (a : Operands) : (s.setArgs a).toDecode = s.toDecode := rfl
@[simp] theorem setArgs_schedule (a : Operands) : (s.setArgs a).schedule = s.schedule := rfl
@[simp] theorem setArgs_draws (a : Operands) : (s.setArgs a).draws = s.draws := rfl
@[simp] theorem setArgs_regSet (a : Operands) (id : SetId) : (s.setArgs a).regSet id = s.regSet id := by cases id <;> rfl

/-! `State.setInBuf` -/

@[simp] theorem setInBuf_opSel (b : Bytes) : (s.setInBuf b).opSel = s.opSel := rfl
@[simp] theorem setInBuf_args (b : Bytes) : (s.setInBuf b).args = { s.args with inBuf := b } := rfl
@[simp] theorem setInBuf_res (b : Bytes) : (s.setInBuf b).res = s.res := rfl
@[simp] theorem setInBuf_crcHigh (b : Bytes) : (s.setInBuf b).crcHigh = s.crcHigh := rfl
@[simp] theorem setInBuf_crcLow (b : Bytes) : (s.setInBuf b).crcLow = s.crcLow := rfl
@[simp] theorem setInBuf_pos (b : Bytes) : (s.setInBuf b).pos = s.pos := rfl
@[simp] theorem setInBuf_eng (b : Bytes) : (s.setInBuf b).eng = s.eng := rfl
@[simp] theorem setInBuf_env (b : Bytes) : (s.setInBuf b).env = s.env := rfl
@[simp] theorem setInBuf_cfg (b : Bytes) : (s.setInBuf b).cfg = s.cfg := rfl
@[simp] theorem setInBuf_testConfig (b : Bytes) : (s.setInBuf b).testConfig = s.testConfig := rfl
@[simp] theorem setInBuf_sampling (b : Bytes) : (s.setInBuf b).sampling = s.sampling := rfl
@[simp] theorem setInBuf_errorSet (b : Bytes) : (s.setInBuf b).errorSet = s.errorSet := rfl
@[simp] theorem setInBuf_exchanging (b : Bytes) : (s.setInBuf b).exchanging = s.exchanging := rfl
@[simp] theorem setInBuf_toDecode (b : Bytes) : (s.setInBuf b).toDecode = s.toDecode := rfl
@[simp] theorem setInBuf_schedule (b : Bytes) : (s.setInBuf b).schedule = s.schedule := rfl
@[simp] theorem setInBuf_draws (b : Bytes) : (s.setInBuf b).draws = s.draws := rfl
@[simp] theorem setInBuf_regSet (b : Bytes) (id : SetId) : (s.setInBuf b).regSet id = s.regSet id := by cases id <;> rfl

/-! `State.setArgOpcode` -/

@[simp] theorem setArgOpcode_opSel (o : BitVec 16) : (s.setArgOpcode o).opSel = s.opSel := rfl
@[simp] theorem setArgOpcode_args (o : BitVec 16) : (s.setArgOpcode o).args = { s.args with opcode := o } := rfl
@[simp] theorem setArgOpcode_res (o : BitVec 16) : (s.setArgOpcode o).res = s.res := rfl
@[simp] theorem setArgOpcode_crcHigh (o : BitVec 16) : (s.setArgOpcode o).crcHigh = s.crcHigh := rfl
@[simp] theorem setArgOpcode_crcLow (o : BitVec 16) : (s.setArgOpcode o).crcLow = s.crcLow := rfl
@[simp] theorem setArgOpcode_pos (o : BitVec 16) : (s.setArgOpcode o).pos = s.pos := rfl
@[simp] theorem setArgOpcode_eng (o : BitVec 16) : (s.setArgOpcode o).eng = s.eng := rfl
@[simp] theorem setArgOpcode_env (o : BitVec 16) : (s.setArgOpcode o).env = s.env := rfl
@[simp] theorem setArgOpcode_cfg (o : BitVec 16) : (s.setArgOpcode o).cfg = s.cfg := rfl
@[simp] theorem setArgOpcode_testConfig (o : BitVec 16) : (s.setArgOpcode o).testConfig = s.testConfig := rfl
@[simp] theorem setArgOpcode_sampling (o : BitVec 16) : (s.setArgOpcode o).sampling = s.sampling := rfl
@[simp] theorem setArgOpcode_errorSet (o : BitVec 16) : (s.setArgOpcode o).errorSet = s.errorSet := rfl
@[simp] theorem setArgOpcode_exchanging (o : BitVec 16) : (s.setArgOpcode o).exchanging = s.exchanging := rfl
@[simp] theorem setArgOpcode_toDecode (o : BitVec 16) : (s.setArgOpcode o).toDecode = s.toDecode := rfl
@[simp] theorem setArgOpcode_schedule (o : BitVec 16) : (s.setArgOpcode o).schedule = s.schedule := rfl
@[simp] theorem setArgOpcode_draws (o : BitVec 16) : (s.setArgOpcode o).draws = s.draws := rfl
@[simp] theorem setArgOpcode_regSet (o : BitVec 16) (id : SetId) : (s.setArgOpcode o).regSet id = s.regSet id := by cases id <;> rfl

/-! `State.setRes` -/

@[simp] theorem setRes_opSel (r : Results) : (s.setRes r).opSel = s.opSel := rfl
@[simp] theorem setRes_args (r : Results) : (s.setRes r).args = s.args := rfl
@[simp] theorem setRes_res (r : Results) : (s.setRes r).res = r := rfl
@[simp] theorem setRes_crcHigh (r : Results) : (s.setRes r).crcHigh = s.crcHigh := rfl
@[simp] theorem setRes_crcLow (r : Results) : (s.setRes r).crcLow = s.crcLow := rfl
@[simp] theorem setRes_pos (r : Results) : (s.setRes r).pos = s.pos := rfl
@[simp] theorem setRes_eng (r : Results) : (s.setRes r).eng = s.eng := rfl
@[simp] theorem setRes_env (r : Results) : (s.setRes r).env = s.env := rfl
@[simp] theorem setRes_cfg (r : Results) : (s.setRes r).cfg = s.cfg := rfl
@[simp] theorem setRes_testConfig (r : Results) : (s.setRes r).testConfig = s.testConfig := rfl
@[simp] theorem setRes_sampling (r : Results) : (s.setRes r).sampling = s.sampling := rfl
@[simp] theorem setRes_errorSet (r : Results) : (s.setRes r).errorSet = s.errorSet := rfl
@[simp] theorem setRes_exchanging (r : Results) : (s.setRes r).exchanging = s.exchanging := rfl
@[simp] theorem setRes_toDecode (r : Results) : (s.setRes r).toDecode = s.toDecode := rfl
@[simp] theorem setRes_schedule (r : Results) : (s.setRes r).schedule = s.schedule := rfl
@[simp] theorem setRes_draws (r : Results) : (s.setRes r).draws = s.draws := rfl
@[simp] theorem setRes_regSet (r : Results) (id : SetId) : (s.setRes r).regSet id = s.regSet id := by cases id <;> rfl

/-! `State.setCrc` -/

@[simp] theorem setCrc_opSel (h l : Byte) : (s.setCrc h l).opSel = s.opSel := rfl
@[simp] theorem setCrc_args (h l : Byte) : (s.setCrc h l).args = s.args := rfl
@[simp] theorem setCrc_res (h l : Byte) : (s.setCrc h l).res = s.res := rfl
@[simp] theorem setCrc_crcHigh (h l : Byte) : (s.setCrc h l).crcHigh = h := rfl
@[simp] theorem setCrc_crcLow (h l : Byte) : (s.setCrc h l).crcLow = l := rfl
@[simp] theorem setCrc_pos (h l : Byte) : (s.setCrc h l).pos = s.pos := rfl
@[simp] theorem setCrc_eng (h l : Byte) : (s.setCrc h l).eng = s.eng := rfl
@[simp] theorem setCrc_env (h l : Byte) : (s.setCrc h l).env = s.env := rfl
@[simp] theorem setCrc_cfg (h l : Byte) : (s.setCrc h l).cfg = s.cfg := rfl
@[simp] theorem setCrc_testConfig (h l : Byte) : (s.setCrc h l).testConfig = s.testConfig := rfl
@[simp] theorem setCrc_sampling (h l : Byte) : (s.setCrc h l).sampling = s.sampling := rfl
@[simp] theorem setCrc_errorSet (h l : Byte) : (s.setCrc h l).errorSet = s.errorSet := rfl
@[simp] theorem setCrc_exchanging (h l : Byte) : (s.setCrc h l).exchanging = s.exchanging := rfl
@[simp] theorem setCrc_toDecode (h l : Byte) : (s.setCrc h l).toDecode = s.toDecode := rfl
@[simp] theorem setCrc_schedule (h l : Byte) : (s.setCrc h l).schedule = s.schedule := rfl
@[simp] theorem setCrc_draws (h l : Byte) : (s.setCrc h l).draws = s.draws := rfl
@[simp] theorem setCrc_regSet (h l : Byte) (id : SetId) : (s.setCrc h l).regSet id = s.regSet id := by cases id <;> rfl

/-! `State.setPos` -/

@[simp] theorem setPos_opSel (p : Nat) : (s.setPos p).opSel = s.opSel := rfl
@[simp] theorem setPos_args (p : Nat) : (s.setPos p).args = s.args := rfl
@[simp] theorem setPos_res (p : Nat) : (s.setPos p).res = s.res := rfl
@[simp] theorem setPos_crcHigh (p : Nat) : (s.setPos p).crcHigh = s.crcHigh := rfl
@[simp] theorem setPos_crcLow (p : Nat) : (s.setPos p).crcLow = s.crcLow := rfl
@[simp] theorem setPos_pos (p : Nat) : (s.setPos p).pos = p := rfl
@[simp] theorem setPos_eng (p : Nat) : (s.setPos p).eng = s.eng := rfl
@[simp] theorem setPos_env (p : Nat) : (s.setPos p).env = s.env := rfl
@[simp] theorem setPos_cfg (p : Nat) : (s.setPos p).cfg = s.cfg := rfl
@[simp] theorem setPos_testConfig (p : Nat) : (s.setPos p).testConfig = s.testConfig := rfl
@[simp] theorem setPos_sampling (p : Nat) : (s.setPos p).sampling = s.sampling := rfl
@[simp] theorem setPos_errorSet (p : Nat) : (s.setPos p).errorSet = s.errorSet := rfl
@[simp] theorem setPos_exchanging (p : Nat) : (s.setPos p).exchanging = s.exchanging := rfl
@[simp] theorem setPos_toDecode (p : Nat) : (s.setPos p).toDecode = s.toDecode := rfl
@[simp] theorem setPos_schedule (p : Nat) : (s.setPos p).schedule = s.schedule := rfl
@[simp] theorem setPos_draws (p : Nat) : (s.setPos p).draws = s.draws := rfl
@[simp] theorem setPos_regSet (p : Nat) (id : SetId) : (s.setPos p).regSet id = s.regSet id := by cases id <;> rfl

/-! `State.setEng` -/

@[simp] theorem setEng_opSel (e : Engine) : (s.setEng e).opSel = s.opSel := rfl
@[simp] theorem setEng_args (e : Engine) : (s.setEng e).args = s.args := rfl
@[simp] theorem setEng_res (e : Engine) : (s.setEng e).res = s.res := rfl
@[simp] theorem setEng_crcHigh (e : Engine) : (s.setEng e).crcHigh = s.crcHigh := rfl
@[simp] theorem setEng_crcLow (e : Engine) : (s.setEng e).crcLow = s.crcLow := rfl
@[simp] theorem setEng_pos (e : Engine) : (s.setEng e).pos = s.pos := rfl
@[simp] theorem setEng_eng (e : Engine) : (s.setEng e).eng = e := rfl
@[simp] theorem setEng_env (e : Engine) : (s.setEng e).env = s.env := rfl
@[simp] theorem setEng_cfg (e : Engine) : (s.setEng e).cfg = s.cfg := rfl
@[simp] theorem setEng_testConfig (e : Engine) : (s.setEng e).testConfig = s.testConfig := rfl
@[simp] theorem setEng_sampling (e : Engine) : (s.setEng e).sampling = s.sampling := rfl
@[simp] theorem setEng_errorSet (e : Engine) : (s.setEng e).errorSet = s.errorSet := rfl
@[simp] theorem setEng_exchanging (e : Engine) : (s.setEng e).exchanging = s.exchanging := rfl
@[simp] theorem setEng_toDecode (e : Engine) : (s.setEng e).toDecode = s.toDecode := rfl
@[simp] theorem setEng_schedule (e : Engine) : (s.setEng e).schedule = s.schedule := rfl
@[simp] theorem setEng_draws (e : Engine) : (s.setEng e).draws = s.draws := rfl
@[simp] theorem setEng_regSet (e : Engine) (id : SetId) : (s.setEng e).regSet id = s.regSet id := by cases id <;> rfl

/-! `State.setEnv` -/

@[simp] theorem setEnv_opSel (e : Environment) : (s.setEnv e).opSel = s.opSel := rfl
@[simp] theorem setEnv_args (e : Environment) : (s.setEnv e).args = s.args := rfl
@[simp] theorem setEnv_res (e : Environment) : (s.setEnv e).res = s.res := rfl
@[simp] theorem setEnv_crcHigh (e : Environment) : (s.setEnv e).crcHigh = s.crcHigh := rfl
@[simp] theorem setEnv_crcLow (e : Environment) : (s.setEnv e).crcLow = s.crcLow := rfl
@[simp] theorem setEnv_pos (e : Environment) : (s.setEnv e).pos = s.pos := rfl
@[simp] theorem setEnv_eng (e : Environment) : (s.setEnv e).eng = s.eng := rfl
@[simp] theorem setEnv_env (e : Environment) : (s.setEnv e).env = e := rfl
@[simp] theorem setEnv_cfg (e : Environment) : (s.setEnv e).cfg = s.cfg := rfl
@[simp] theorem setEnv_testConfig (e : Environment) : (s.setEnv e).testConfig = s.testConfig := rfl
@[simp] theorem setEnv_sampling (e : Environment) : (s.setEnv e).sampling = s.sampling := rfl
@[simp] theorem setEnv_errorSet (e : Environment) : (s.setEnv e).errorSet = s.errorSet := rfl
@[simp] theorem setEnv_exchanging (e : Environment) : (s.setEnv e).exchanging = s.exchanging := rfl
@[simp] theorem setEnv_toDecode (e : Environment) : (s.setEnv e).toDecode = s.toDecode := rfl
@[simp] theorem setEnv_schedule (e : Environment) : (s.setEnv e).schedule = s.schedule := rfl
@[simp] theorem setEnv_draws (e : Environment) : (s.setEnv e).draws = s.draws := rfl
@[simp] theorem setEnv_regSet (e : Environment) (id : SetId) : (s.setEnv e).regSet id = s.regSet id := by cases id <;> rfl

/-! `State.setExchanging` -/

@[simp] theorem setExchanging_opSel (b : Bool) : (s.setExchanging b).opSel = s.opSel := rfl
@[simp] theorem setExchanging_args (b : Bool) : (s.setExchanging b).args = s.args := rfl
@[simp] theorem setExchanging_res (b : Bool) : (s.setExchanging b).res = s.res := rfl
@[simp] theorem setExchanging_crcHigh (b : Bool) : (s.setExchanging b).crcHigh = s.crcHigh := rfl
@[simp] theorem setExchanging_crcLow (b : Bool) : (s.setExchanging b).crcLow = s.crcLow := rfl
@[simp] theorem setExchanging_pos (b : Bool) : (s.setExchanging b).pos = s.pos := rfl
@[simp] theorem setExchanging_eng (b : Bool) : (s.setExchanging b).eng = s.eng := rfl
@[simp] theorem setExchanging_env (b : Bool) : (s.setExchanging b).env = s.env := rfl
@[simp] theorem setExchanging_cfg (b : Bool) : (s.setExchanging b).cfg = s.cfg := rfl
@[simp] theorem setExchanging_testConfig (b : Bool) : (s.setExchanging b).testConfig = s.testConfig := rfl
@[simp] theorem setExchanging_sampling (b : Bool) : (s.setExchanging b).sampling = s.sampling := rfl
@[simp] theorem setExchanging_errorSet (b : Bool) : (s.setExchanging b).errorSet = s.errorSet := rfl
@[simp] theorem setExchanging_exchanging (b : Bool) : (s.setExchanging b).exchanging = b := rfl
@[simp] theorem setExchanging_toDecode (b : Bool) : (s.setExchanging b).toDecode = s.toDecode := rfl
@[simp] theorem setExchanging_schedule (b : Bool) : (s.setExchanging b).schedule = s.schedule := rfl
@[simp] theorem setExchanging_draws (b : Bool) : (s.setExchanging b).draws = s.draws := rfl
@[simp] theorem setExchanging_regSet (b : Bool) (id : SetId) : (s.setExchanging b).regSet id = s.regSet id := by cases id <;> rfl

/-! `State.setToDecode` -/

@[simp] theorem setToDecode_opSel (bs : List Bytes) : (s.setToDecode bs).opSel = s.opSel := rfl
@[simp] theorem setToDecode_args (bs : List Bytes) : (s.setToDecode bs).args = s.args := rfl
@[simp] theorem setToDecode_res (bs : List Bytes) : (s.setToDecode bs).res = s.res := rfl
@[simp] theorem setToDecode_crcHigh (bs : List Bytes) : (s.setToDecode bs).crcHigh = s.crcHigh := rfl
@[simp] theorem setToDecode_crcLow (bs : List Bytes) : (s.setToDecode bs).crcLow = s.crcLow := rfl
@[simp] theorem setToDecode_pos (bs : List Bytes) : (s.setToDecode bs).pos = s.pos := rfl
@[simp] theorem setToDecode_eng (bs : List Bytes) : (s.setToDecode bs).eng = s.eng := rfl
@[simp] theorem setToDecode_env (bs : List Bytes) : (s.setToDecode bs).env = s.env := rfl
@[simp] theorem setToDecode_cfg (bs : List Bytes) : (s.setToDecode bs).cfg = s.cfg := rfl
@[simp] theorem setToDecode_testConfig (bs : List Bytes) : (s.setToDecode bs).testConfig = s.testConfig := rfl
@[simp] theorem setToDecode_sampling (bs : List Bytes) : (s.setToDecode bs).sampling = s.sampling := rfl
@[simp] theorem setToDecode_errorSet (bs : List Bytes) : (s.setToDecode bs).errorSet = s.errorSet := rfl
@[simp] theorem setToDecode_exchanging (bs : List Bytes) : (s.setToDecode bs).exchanging = s.exchanging := rfl
@[simp] theorem setToDecode_toDecode (bs : List Bytes) : (s.setToDecode bs).toDecode = bs := rfl
@[simp] theorem setToDecode_schedule (bs : List Bytes) : (s.setToDecode bs).schedule = s.schedule := rfl
@[simp] theorem setToDecode_draws (bs : List Bytes) : (s.setToDecode bs).draws = s.draws := rfl
@[simp] theorem setToDecode_regSet (bs : List Bytes) (id : SetId) : (s.setToDecode bs).regSet id = s.regSet id := by cases id <;> rfl

/-! `State.setSchedule` -/

@[simp] theorem setSchedule_opSel (es : List Event) : (s.setSchedule es).opSel = s.opSel := rfl
@[simp] theorem setSchedule_args (es : List Event) : (s.setSchedule es).args = s.args := rfl
@[simp] theorem setSchedule_res (es : List Event) : (s.setSchedule es).res = s.res := rfl
@[simp] theorem setSchedule_crcHigh (es : List Event) : (s.setSchedule es).crcHigh = s.crcHigh := rfl
@[simp] theorem setSchedule_crcLow (es : List Event) : (s.setSchedule es).crcLow = s.crcLow := rfl
@[simp] theorem setSchedule_pos (es : List Event) : (s.setSchedule es).pos = s.pos := rfl
@[simp] theorem setSchedule_eng (es : List Event) : (s.setSchedule es).eng = s.eng := rfl
@[simp] theorem setSchedule_env (es : List Event) : (s.setSchedule es).env = s.env := rfl
@[simp] theorem setSchedule_cfg (es : List Event) : (s.setSchedule es).cfg = s.cfg := rfl
@[simp] theorem setSchedule_testConfig (es : List Event) : (s.setSchedule es).testConfig = s.testConfig := rfl
@[simp] theorem setSchedule_sampling (es : List Event) : (s.setSchedule es).sampling = s.sampling := rfl
@[simp] theorem setSchedule_errorSet (es : List Event) : (s.setSchedule es).errorSet = s.errorSet := rfl
@[simp] theorem setSchedule_exchanging (es : List Event) : (s.setSchedule es).exchanging = s.exchanging := rfl
@[simp] theorem setSchedule_toDecode (es : List Event) : (s.setSchedule es).toDecode = s.toDecode := rfl
@[simp] theorem setSchedule_schedule (es : List Event) : (s.setSchedule es).schedule = es := rfl
@[simp] theorem setSchedule_draws (es : List Event) : (s.setSchedule es).draws = s.draws := rfl
@[simp] theorem setSchedule_regSet (es : List Event) (id : SetId) : (s.setSchedule es).regSet id = s.regSet id := by cases id <;> rfl

/-! `State.draw` -/

@[simp] theorem draw_opSel : (s.draw).opSel = s.opSel := rfl
@[simp] theorem draw_args : (s.draw).args = s.args := rfl
@[simp] theorem draw_res : (s.draw).res = s.res := rfl
@[simp] theorem draw_crcHigh : (s.draw).crcHigh = s.crcHigh := rfl
@[simp] theorem draw_crcLow : (s.draw).crcLow = s.crcLow := rfl
@[simp] theorem draw_pos : (s.draw).pos = s.pos := rfl
@[simp] theorem draw_eng : (s.draw).eng = s.eng := rfl
@[simp] theorem draw_env : (s.draw).env = s.env := rfl
@[simp] theorem draw_cfg : (s.draw).cfg = s.cfg := rfl
@[simp] theorem draw_testConfig : (s.draw).testConfig = s.testConfig := rfl
@[simp] theorem draw_sampling : (s.draw).sampling = s.sampling := rfl
@[simp] theorem draw_errorSet : (s.draw).errorSet = s.errorSet := rfl
@[simp] theorem draw_exchanging : (s.draw).exchanging = s.exchanging := rfl
@[simp] theorem draw_toDecode : (s.draw).toDecode = s.toDecode := rfl
@[simp] theorem draw_schedule : (s.draw).schedule = s.schedule := rfl
@[simp] theorem draw_draws : (s.draw).draws = s.draws + 1 := rfl
@[simp] theorem draw_regSet (id : SetId) : (s.draw).regSet id = s.regSet id := by cases id <;> rfl

/-! `State.complete` -/

@[simp] theorem complete_opSel (st : Status) (w : Written) : (s.complete st w).opSel = s.opSel := rfl
@[simp] theorem complete_args (st : Status) (w : Written) : (s.complete st w).args = s.args := rfl
@[simp] theorem complete_res (st : Status) (w : Written) : (s.complete st w).res = completed s.draws st w := rfl
@[simp] theorem complete_crcHigh (st : Status) (w : Written) : (s.complete st w).crcHigh = s.crcHigh := rfl
@[simp] theorem complete_crcLow (st : Status) (w : Written) : (s.complete st w).crcLow = s.crcLow := rfl
@[simp] theorem complete_pos (st : Status) (w : Written) : (s.complete st w).pos = s.pos := rfl
@[simp] theorem complete_eng (st : Status) (w : Written) : (s.complete st w).eng = s.eng := rfl
@[simp] theorem complete_env (st : Status) (w : Written) : (s.complete st w).env = s.env := rfl
@[simp] theorem complete_cfg (st : Status) (w : Written) : (s.complete st w).cfg = s.cfg := rfl
@[simp] theorem complete_testConfig (st : Status) (w : Written) : (s.complete st w).testConfig = s.testConfig := rfl
@[simp] theorem complete_sampling (st : Status) (w : Written) : (s.complete st w).sampling = s.sampling := rfl
@[simp] theorem complete_errorSet (st : Status) (w : Written) : (s.complete st w).errorSet = s.errorSet := rfl
@[simp] theorem complete_exchanging (st : Status) (w : Written) : (s.complete st w).exchanging = s.exchanging := rfl
@[simp] theorem complete_toDecode (st : Status) (w : Written) : (s.complete st w).toDecode = s.toDecode := rfl
@[simp] theorem complete_schedule (st : Status) (w : Written) : (s.complete st w).schedule = s.schedule := rfl
@[simp] theorem complete_draws (st : Status) (w : Written) : (s.complete st w).draws = s.draws + 1 := rfl
@[simp] theorem complete_regSet (st : Status) (w : Written) (id : SetId) : (s.complete st w).regSet id = s.regSet id := by cases id <;> rfl

/-! `State.raise` -/

@[simp] theorem raise_opSel (st : Status) : (s.raise st).opSel = s.opSel := rfl
@[simp] theorem raise_args (st : Status) : (s.raise st).args = s.args := rfl
@[simp] theorem raise_res (st : Status) : (s.raise st).res = completed s.draws st {} := rfl
@[simp] theorem raise_crcHigh (st : Status) : (s.raise st).crcHigh = s.crcHigh := rfl
@[simp] theorem raise_crcLow (st : Status) : (s.raise st).crcLow = s.crcLow := rfl
@[simp] theorem raise_pos (st : Status) : (s.raise st).pos = s.pos := rfl
@[simp] theorem raise_eng (st : Status) : (s.raise st).eng = s.eng := rfl
@[simp] theorem raise_env (st : Status) : (s.raise st).env = s.env := rfl
@[simp] theorem raise_cfg (st : Status) : (s.raise st).cfg = s.cfg := rfl
@[simp] theorem raise_testConfig (st : Status) : (s.raise st).testConfig = s.testConfig := rfl
@[simp] theorem raise_sampling (st : Status) : (s.raise st).sampling = s.sampling := rfl
@[simp] theorem raise_errorSet (st : Status) : (s.raise st).errorSet = s.errorSet := rfl
@[simp] theorem raise_exchanging (st : Status) : (s.raise st).exchanging = s.exchanging := rfl
@[simp] theorem raise_toDecode (st : Status) : (s.raise st).toDecode = s.toDecode := rfl
@[simp] theorem raise_schedule (st : Status) : (s.raise st).schedule = s.schedule := rfl
@[simp] theorem raise_draws (st : Status) : (s.raise st).draws = s.draws + 1 := rfl
@[simp] theorem raise_regSet (st : Status) (id : SetId) : (s.raise st).regSet id = s.regSet id := by cases id <;> rfl

/-! `State.report` -/

@[simp] theorem report_opSel (st : Status) : (s.report st).opSel = s.opSel := rfl
@[simp] theorem report_args (st : Status) : (s.report st).args = s.args := rfl
@[simp] theorem report_res (st : Status) : (s.report st).res = { s.res with status := statusCode st, info := statusInfo st } := rfl
@[simp] theorem report_crcHigh (st : Status) : (s.report st).crcHigh = s.crcHigh := rfl
@[simp] theorem report_crcLow (st : Status) : (s.report st).crcLow = s.crcLow := rfl
@[simp] theorem report_pos (st : Status) : (s.report st).pos = s.pos := rfl
@[simp] theorem report_eng (st : Status) : (s.report st).eng = s.eng := rfl
@[simp] theorem report_env (st : Status) : (s.report st).env = s.env := rfl
@[simp] theorem report_cfg (st : Status) : (s.report st).cfg = s.cfg := rfl
@[simp] theorem report_testConfig (st : Status) : (s.report st).testConfig = s.testConfig := rfl
@[simp] theorem report_sampling (st : Status) : (s.report st).sampling = s.sampling := rfl
@[simp] theorem report_errorSet (st : Status) : (s.report st).errorSet = s.errorSet := rfl
@[simp] theorem report_exchanging (st : Status) : (s.report st).exchanging = s.exchanging := rfl
@[simp] theorem report_toDecode (st : Status) : (s.report st).toDecode = s.toDecode := rfl
@[simp] theorem report_schedule (st : Status) : (s.report st).schedule = s.schedule := rfl
@[simp] theorem report_draws (st : Status) : (s.report st).draws = s.draws := rfl
@[simp] theorem report_regSet (st : Status) (id : SetId) : (s.report st).regSet id = s.regSet id := by cases id <;> rfl

/-! `State.portWrite` -/

@[simp] theorem portWrite_opSel (b : Bytes) : (s.portWrite b).opSel = s.opSel := rfl
@[simp] theorem portWrite_args (b : Bytes) : (s.portWrite b).args = s.args := rfl
@[simp] theorem portWrite_res (b : Bytes) : (s.portWrite b).res = s.res := rfl
@[simp] theorem portWrite_crcHigh (b : Bytes) : (s.portWrite b).crcHigh = s.crcHigh := rfl
@[simp] theorem portWrite_crcLow (b : Bytes) : (s.portWrite b).crcLow = s.crcLow := rfl
@[simp] theorem portWrite_pos (b : Bytes) : (s.portWrite b).pos = s.pos := rfl
@[simp] theorem portWrite_eng (b : Bytes) : (s.portWrite b).eng = s.eng := rfl
@[simp] theorem portWrite_env (b : Bytes) : (s.portWrite b).env = { s.env with txStream := s.env.txStream ++ b } := rfl
@[simp] theorem portWrite_cfg (b : Bytes) : (s.portWrite b).cfg = s.cfg := rfl
@[simp] theorem portWrite_testConfig (b : Bytes) : (s.portWrite b).testConfig = s.testConfig := rfl
@[simp] theorem portWrite_sampling (b : Bytes) : (s.portWrite b).sampling = s.sampling := rfl
@[simp] theorem portWrite_errorSet (b : Bytes) : (s.portWrite b).errorSet = s.errorSet := rfl
@[simp] theorem portWrite_exchanging (b : Bytes) : (s.portWrite b).exchanging = s.exchanging := rfl
@[simp] theorem portWrite_toDecode (b : Bytes) : (s.portWrite b).toDecode = s.toDecode := rfl
@[simp] theorem portWrite_schedule (b : Bytes) : (s.portWrite b).schedule = s.schedule := rfl
@[simp] theorem portWrite_draws (b : Bytes) : (s.portWrite b).draws = s.draws := rfl
@[simp] theorem portWrite_regSet (b : Bytes) (id : SetId) : (s.portWrite b).regSet id = s.regSet id := by cases id <;> rfl

/-! `State.arrive` -/

@[simp] theorem arrive_opSel (b : Bytes) : (s.arrive b).opSel = s.opSel := rfl
@[simp] theorem arrive_args (b : Bytes) : (s.arrive b).args = s.args := rfl
@[simp] theorem arrive_res (b : Bytes) : (s.arrive b).res = s.res := rfl
@[simp] theorem arrive_crcHigh (b : Bytes) : (s.arrive b).crcHigh = s.crcHigh := rfl
@[simp] theorem arrive_crcLow (b : Bytes) : (s.arrive b).crcLow = s.crcLow := rfl
@[simp] theorem arrive_pos (b : Bytes) : (s.arrive b).pos = s.pos := rfl
@[simp] theorem arrive_eng (b : Bytes) : (s.arrive b).eng = s.eng := rfl
@[simp] theorem arrive_env (b : Bytes) : (s.arrive b).env = { s.env with rxPending := s.env.rxPending ++ b } := rfl
@[simp] theorem arrive_cfg (b : Bytes) : (s.arrive b).cfg = s.cfg := rfl
@[simp] theorem arrive_testConfig (b : Bytes) : (s.arrive b).testConfig = s.testConfig := rfl
@[simp] theorem arrive_sampling (b : Bytes) : (s.arrive b).sampling = s.sampling := rfl
@[simp] theorem arrive_errorSet (b : Bytes) : (s.arrive b).errorSet = s.errorSet := rfl
@[simp] theorem arrive_exchanging (b : Bytes) : (s.arrive b).exchanging = s.exchanging := rfl
@[simp] theorem arrive_toDecode (b : Bytes) : (s.arrive b).toDecode = s.toDecode := rfl
@[simp] theorem arrive_schedule (b : Bytes) : (s.arrive b).schedule = s.schedule := rfl
@[simp] theorem arrive_draws (b : Bytes) : (s.arrive b).draws = s.draws := rfl
@[simp] theorem arrive_regSet (b : Bytes) (id : SetId) : (s.arrive b).regSet id = s.regSet id := by cases id <;> rfl

/-! `State.setRegSet` -/

@[simp] theorem setRegSet_opSel (id : SetId) (r : RegSet) : (s.setRegSet id r).opSel = s.opSel := by cases id <;> rfl
@[simp] theorem setRegSet_args (id : SetId) (r : RegSet) : (s.setRegSet id r).args = s.args := by cases id <;> rfl
@[simp] theorem setRegSet_res (id : SetId) (r : RegSet) : (s.setRegSet id r).res = s.res := by cases id <;> rfl
@[simp] theorem setRegSet_crcHigh (id : SetId) (r : RegSet) : (s.setRegSet id r).crcHigh = s.crcHigh := by cases id <;> rfl
@[simp] theorem setRegSet_crcLow (id : SetId) (r : RegSet) : (s.setRegSet id r).crcLow = s.crcLow := by cases id <;> rfl
@[simp] theorem setRegSet_pos (id : SetId) (r : RegSet) : (s.setRegSet id r).pos = s.pos := by cases id <;> rfl
@[simp] theorem setRegSet_eng (id : SetId) (r : RegSet) : (s.setRegSet id r).eng = s.eng := by cases id <;> rfl
@[simp] theorem setRegSet_env (id : SetId) (r : RegSet) : (s.setRegSet id r).env = s.env := by cases id <;> rfl
@[simp] theorem setRegSet_cfg (id : SetId) (r : RegSet) : (s.setRegSet id r).cfg = s.cfg := by cases id <;> rfl
@[simp] theorem setRegSet_exchanging (id : SetId) (r : RegSet) : (s.setRegSet id r).exchanging = s.exchanging := by cases id <;> rfl
@[simp] theorem setRegSet_toDecode (id : SetId) (r : RegSet) : (s.setRegSet id r).toDecode = s.toDecode := by cases id <;> rfl
@[simp] theorem setRegSet_schedule (id : SetId) (r : RegSet) : (s.setRegSet id r).schedule = s.schedule := by cases id <;> rfl
@[simp] theorem setRegSet_draws (id : SetId) (r : RegSet) : (s.setRegSet id r).draws = s.draws := by cases id <;> rfl

/-- A set reads as it was written. -/
@[simp] theorem setRegSet_regSet_same (id : SetId) (r : RegSet) : (s.setRegSet id r).regSet id = r := by
  cases id <;> rfl

/-- Writing one set leaves the others alone. -/
theorem setRegSet_regSet_other (id id' : SetId) (r : RegSet) (h : id' ≠ id) :
    (s.setRegSet id r).regSet id' = s.regSet id' := by
  cases id <;> cases id' <;> first | exact absurd rfl h | rfl

/-! The result ports once an operation has completed. -/

section Completed

variable (n : Nat) (st : Status) (w : Written)

@[simp] theorem completed_status : (completed n st w).status = statusCode st := rfl
@[simp] theorem completed_info : (completed n st w).info = statusInfo st := rfl
@[simp] theorem completed_outBuf : (completed n st w).outBuf = w.outBuf.getD (Config.freeOutBuf n) := rfl
@[simp] theorem completed_value : (completed n st w).value = w.value.getD (Config.freeValue n) := rfl
@[simp] theorem completed_crcLow : (completed n st w).crcLow = w.crcLow.getD (Config.freeCrcLow n) := rfl
@[simp] theorem completed_crcHigh : (completed n st w).crcHigh = w.crcHigh.getD (Config.freeCrcHigh n) := rfl
@[simp] theorem completed_opcode : (completed n st w).opcode = w.opcode.getD (Config.freeOpcode n) := rfl
@[simp] theorem completed_errCode : (completed n st w).errCode = w.errCode.getD (Config.freeErrCode n) := rfl

end Completed

end Sys2Proof.Machine
end

