-- ==== Sys2Proof/Laws/Frame.lean ====
section
/-! SUPPORT. The laws of the CRC engine (R114) and of the frame layout: what the decoder's tests and fields are on a
frame laid out around a body (R81, R82), and all that FRAME_ENC and FRAME_DEC can do. -/

namespace Sys2Proof.Machine

@[simp] theorem crcFrom_nil (cfg : Config) (c : CrcPair) : crcFrom cfg c [] = c := rfl

@[simp] theorem crcFrom_cons (cfg : Config) (c : CrcPair) (b : Byte) (m : Bytes) :
    crcFrom cfg c (b :: m) = crcFrom cfg (crcStep cfg c b) m := rfl

theorem crcFrom_append (cfg : Config) (c : CrcPair) (m m' : Bytes) :
    crcFrom cfg c (m ++ m') = crcFrom cfg (crcFrom cfg c m) m' := by
  simp [crcFrom]

/-- A frame with the received pair `c` in place of the computed one. -/
def rawFrame (body : Bytes) (c : CrcPair) : Bytes :=
  [soi] ++ leBytes lenWidth body.length ++ body ++ crcWire c ++ [eoi]

theorem frameAround_eq_rawFrame (cfg : Config) (body : Bytes) :
    frameAround cfg body = rawFrame body (crc16 cfg body) := rfl

/-- A frame is 8 bytes longer than its body (R80). -/
@[simp] theorem rawFrame_length (body : Bytes) (c : CrcPair) : (rawFrame body c).length = body.length + 8 := by
  simp [rawFrame, lenWidth, crcWire]
  omega

theorem rawFrame_first (body : Bytes) (c : CrcPair) : byteAt (rawFrame body c) 0 = soi := by
  simp [rawFrame, byteAt]

theorem rawFrame_last (body : Bytes) (c : CrcPair) : byteAt (rawFrame body c) (body.length + 7) = eoi := by
  have h := byteAt_append ([soi] ++ leBytes lenWidth body.length ++ body ++ crcWire c) [eoi] 0
  have hl : ([soi] ++ leBytes lenWidth body.length ++ body ++ crcWire c).length + 0 = body.length + 7 := by
    simp [lenWidth, crcWire]
    omega
  rw [hl] at h
  exact h

/-- The length field holds the body's length (R83). -/
theorem rawFrame_declaredLen (body : Bytes) (c : CrcPair) (h : body.length < 256 ^ 4) :
    declaredLen (rawFrame body c) = body.length := by
  have hs : slice (rawFrame body c) 1 5 = leBytes lenWidth body.length := by
    have := slice_append [soi] (leBytes lenWidth body.length) (body ++ crcWire c ++ [eoi])
    simpa [rawFrame, lenWidth] using this
  rw [declaredLen, hs, leValue_leBytes_of_lt (by simpa [lenWidth] using h)]

/-- The bytes the length field counts are the body (R174). -/
theorem rawFrame_body (body : Bytes) (c : CrcPair) (h : body.length < 256 ^ 4) :
    frameBody (rawFrame body c) = body := by
  rw [frameBody, rawFrame_declaredLen body c h]
  have := slice_append ([soi] ++ leBytes lenWidth body.length) body (crcWire c ++ [eoi])
  have hl : ([soi] ++ leBytes lenWidth body.length).length = 5 := by simp [lenWidth]
  rw [hl] at this
  simpa [rawFrame] using this

/-- The received pair is the pair on the wire (R85, R167 step 7). -/
theorem rawFrame_receivedCrc (body : Bytes) (c : CrcPair) (h : body.length < 256 ^ 4) :
    receivedCrc (rawFrame body c) = c := by
  have hl : ([soi] ++ leBytes lenWidth body.length ++ body).length = 5 + body.length := by
    simp [lenWidth]
    omega
  have hlow := byteAt_append ([soi] ++ leBytes lenWidth body.length ++ body) (crcWire c ++ [eoi]) 0
  have hhigh := byteAt_append ([soi] ++ leBytes lenWidth body.length ++ body) (crcWire c ++ [eoi]) 1
  rw [hl] at hlow hhigh
  rw [receivedCrc, rawFrame_declaredLen body c h]
  cases c with
  | mk high low =>
    have h6 : 6 + body.length = 5 + body.length + 1 := by omega
    simp only [CrcPair.mk.injEq]
    exact ⟨by rw [h6]; simpa [rawFrame, crcWire, byteAt] using hhigh,
      by simpa [rawFrame, crcWire, byteAt] using hlow⟩

/-- A frame around a body of at least three bytes passes the tests of markers and length; around a shorter one it
fails the last of them (R167 to R172). -/
theorem rawFrame_framingStatus (body : Bytes) (c : CrcPair) (h : body.length < 256 ^ 4) :
    framingStatus (rawFrame body c) = if body.length < 3 then .frameLengthMismatch else .ok := by
  simp [framingStatus, rawFrame_first, rawFrame_last, rawFrame_declaredLen body c h]

/-- FRAME_ENC does one of two things (R161, R165). -/
theorem frameEnc_cases (s : State) :
    (payloadBound s.cfg < s.args.inBuf.length ∧ s.frameEnc = s.raise (.encodingError .valueOutOfRange)) ∨
    (s.args.inBuf.length ≤ payloadBound s.cfg ∧
      s.frameEnc = (s.runCrc (commandBody (lowByte s.args.opcode) s.args.inBuf)).complete .ok
        { outBuf := some (commandFrame s.cfg (lowByte s.args.opcode) s.args.inBuf) }) := by
  unfold State.frameEnc
  split
  · exact .inl ⟨‹_›, rfl⟩
  · exact .inr ⟨by omega, rfl⟩

/-- FRAME_DEC moves the cursor, may run the CRC engine, and completes with the fields or fails with the first failing
test (R167, R176). -/
theorem frameDec_cases (s : State) :
    (frameStatus s.cfg s.args.inBuf = .ok ∧
      s.frameDec = ((s.setPos (frameCursor s.args.inBuf)).checkCrc s.args.inBuf).complete .ok
        (frameFields s.args.inBuf)) ∨
    (frameStatus s.cfg s.args.inBuf ≠ .ok ∧
      s.frameDec = ((s.setPos (frameCursor s.args.inBuf)).checkCrc s.args.inBuf).raise
        (frameStatus s.cfg s.args.inBuf)) := by
  unfold State.frameDec
  by_cases h : frameStatus s.cfg s.args.inBuf = .ok <;> simp [h]

/-- The CRC engine's run moves its working registers only (R22). -/
theorem checkCrc_eq (s : State) (buf : Bytes) :
    s.checkCrc buf = { s with crcHigh := (s.checkCrc buf).crcHigh, crcLow := (s.checkCrc buf).crcLow } := by
  unfold State.checkCrc
  split <;> rfl

/-- FRAME_DEC leaves everything but the result ports and the working registers alone (R177, R22, R24). -/
theorem frameDec_keeps (s : State) :
    s.frameDec.eng = s.eng ∧ s.frameDec.env = s.env ∧ s.frameDec.cfg = s.cfg ∧ s.frameDec.args = s.args ∧
      s.frameDec.exchanging = s.exchanging ∧ s.frameDec.toDecode = s.toDecode ∧ s.frameDec.schedule = s.schedule ∧
      ∀ id, s.frameDec.regSet id = s.regSet id := by
  rcases frameDec_cases s with ⟨_, h⟩ | ⟨_, h⟩ <;> rw [h, checkCrc_eq] <;>
    exact ⟨rfl, rfl, rfl, rfl, rfl, rfl, rfl, fun id => by cases id <;> rfl⟩

end Sys2Proof.Machine
end

