-- ==== Sys2Proof/Laws/PerInstr.lean ====
section
/-! SUPPORT. Statements made per instruction: RoundTrip, decoding the code of an instruction gives the instruction
back (R95, R98, R99), one lemma for each constructor. -/

namespace Sys2Proof.Laws.RoundTrip

/-- If `i` has a code, that code decodes to `i`, for every configured `OPC_READBACK_ERROR` that is none of the
other six opcode constants (R98). -/
def Statement (i : Instr) : Prop :=
  ∀ (readbackError : Byte) (c : Code), readbackError ∉ [0x80#8, 0x81#8, 0xD0#8, 0xD1#8, 0xD2#8, 0xD3#8] →
    encode readbackError i = some c → decode readbackError c = .ok i

/-- An instruction without a code meets the statement. -/
theorem no_code {i : Instr} (h : ∀ rb, encode rb i = none) : Statement i := by
  intro rb c _ hc
  rw [h rb] at hc
  cases hc

/-- An `OP_SEL` code meets the statement if the map of R95 takes it back. -/
theorem opSel_code {i : Instr} {c : BitVec 4} (h : ∀ rb, encode rb i = some (.opSel c)) (hd : decodeOpSel c = i) :
    Statement i := by
  intro rb d _ hc
  rw [h rb] at hc
  cases hc
  simp [decode, hd]

/-- A fixed opcode byte meets the statement if the constants of R98 take it back, whatever the configured one. -/
theorem opcode_code {i : Instr} {b : Byte} (h : ∀ rb, encode rb i = some (.opcode b))
    (hd : ∀ rb, decodeOpcode rb b = some i) : Statement i := by
  intro rb d _ hc
  rw [h rb] at hc
  cases hc
  simp [decode, hd]

theorem crc16 : Statement .crc16 := opSel_code (fun _ => rfl) rfl
theorem encUint : Statement .encUint := opSel_code (fun _ => rfl) rfl
theorem decUint : Statement .decUint := opSel_code (fun _ => rfl) rfl
theorem encFloat : Statement .encFloat := opSel_code (fun _ => rfl) rfl
theorem decFloat : Statement .decFloat := opSel_code (fun _ => rfl) rfl
theorem decBool : Statement .decBool := opSel_code (fun _ => rfl) rfl
theorem encBool : Statement .encBool := opSel_code (fun _ => rfl) rfl
theorem frameEnc : Statement .frameEnc := opSel_code (fun _ => rfl) rfl
theorem frameDec : Statement .frameDec := opSel_code (fun _ => rfl) rfl
theorem start : Statement .start := opSel_code (fun _ => rfl) rfl
theorem transaction : Statement .transaction := opSel_code (fun _ => rfl) rfl
theorem reservedB : Statement .reservedB := opSel_code (fun _ => rfl) rfl
theorem reservedC : Statement .reservedC := opSel_code (fun _ => rfl) rfl
theorem reservedD : Statement .reservedD := opSel_code (fun _ => rfl) rfl
theorem reservedE : Statement .reservedE := opSel_code (fun _ => rfl) rfl
theorem reservedF : Statement .reservedF := opSel_code (fun _ => rfl) rfl
theorem rdStep (k : Nat) : Statement (.rdStep k) := no_code fun _ => rfl
theorem txnPoll : Statement .txnPoll := no_code fun _ => rfl
theorem envRx (e : Bytes) : Statement (.envRx e) := no_code fun _ => rfl
theorem tick (d : Time) : Statement (.tick d) := no_code fun _ => rfl
theorem reset : Statement .reset := no_code fun _ => rfl
theorem exchange : Statement .exchange := no_code fun _ => rfl
theorem serialize (set : SetId) : Statement (.serialize set) := no_code fun _ => rfl
theorem deserialize (set : SetId) : Statement (.deserialize set) := no_code fun _ => rfl
theorem frameCmd : Statement .frameCmd := no_code fun _ => rfl
theorem frameRsp (opLow opHigh err : Byte) (payload : Bytes) : Statement (.frameRsp opLow opHigh err payload) :=
  no_code fun _ => rfl
theorem opcLogin : Statement .opcLogin := opcode_code (fun _ => rfl) (fun _ => rfl)
theorem opcLogout : Statement .opcLogout := opcode_code (fun _ => rfl) (fun _ => rfl)
theorem opcTestCommand : Statement .opcTestCommand := opcode_code (fun _ => rfl) (fun _ => rfl)
theorem opcOnlineAdjust : Statement .opcOnlineAdjust := opcode_code (fun _ => rfl) (fun _ => rfl)
theorem opcReadbackSampling : Statement .opcReadbackSampling := opcode_code (fun _ => rfl) (fun _ => rfl)
theorem opcStopTest : Statement .opcStopTest := opcode_code (fun _ => rfl) (fun _ => rfl)
theorem opcReadbackError : Statement .opcReadbackError := by
  intro rb c hrb hc
  cases hc
  simp only [List.mem_cons, List.not_mem_nil, or_false, not_or] at hrb
  simp [decode, decodeOpcode, hrb]
theorem statusOk : Statement .statusOk := no_code fun _ => rfl
theorem statusFrameEmpty : Statement .statusFrameEmpty := no_code fun _ => rfl
theorem statusFrameInvalidMarkers : Statement .statusFrameInvalidMarkers := no_code fun _ => rfl
theorem statusFrameLengthMismatch : Statement .statusFrameLengthMismatch := no_code fun _ => rfl
theorem statusFrameCrcMismatch : Statement .statusFrameCrcMismatch := no_code fun _ => rfl
theorem statusEncodingError (c : SubCause) : Statement (.statusEncodingError c) := no_code fun _ => rfl
theorem statusRegisterLengthMismatch : Statement .statusRegisterLengthMismatch := no_code fun _ => rfl
theorem statusRangeError : Statement .statusRangeError := no_code fun _ => rfl
theorem statusTransactionTimeout : Statement .statusTransactionTimeout := no_code fun _ => rfl
theorem statusBusy : Statement .statusBusy := no_code fun _ => rfl
theorem statusRxOverflow : Statement .statusRxOverflow := no_code fun _ => rfl
theorem statusIllegalOperation : Statement .statusIllegalOperation := no_code fun _ => rfl

end Sys2Proof.Laws.RoundTrip
end

