-- ==== Sys2Proof/Laws/Transaction.lean ====
section
/-! SUPPORT. All that the shared operations of the Serial Transaction Engine, of EXCHANGE and of the register sets
can do, each said once. -/

namespace Sys2Proof.Machine

/-- A read of no pending byte returns none (R193). -/
@[simp] theorem portRead_nil (cfg : Config) (k : Nat) : portRead cfg [] k = ([], []) := by
  simp [portRead]

/-- A read returns a prefix of the pending bytes and leaves the rest: none is skipped, doubled or moved (R193). -/
theorem portRead_append (cfg : Config) (pending : Bytes) (k : Nat) :
    (portRead cfg pending k).1 ++ (portRead cfg pending k).2 = pending := by
  simp [portRead]

/-- The number of bytes read: `k` itself whenever `k` is a count R193 allows. -/
theorem readCount_of_allowed {cfg : Config} {pending : Bytes} {k : Nat} (h1 : 1 ≤ k) (h2 : k ≤ pending.length)
    (h3 : k ≤ cfg.rxChunkMax) : readCount cfg pending k = k := by
  simp only [readCount]
  omega

/-- Every count read is one R193 allows. -/
theorem readCount_allowed {cfg : Config} {pending : Bytes} (k : Nat) (hp : pending ≠ []) (hc : 1 ≤ cfg.rxChunkMax) :
    1 ≤ readCount cfg pending k ∧ readCount cfg pending k ≤ pending.length ∧
      readCount cfg pending k ≤ cfg.rxChunkMax := by
  have := List.length_pos_iff.mpr hp
  simp only [readCount]
  omega

/-- A read is empty exactly when nothing is pending (R193). -/
theorem portRead_isEmpty (cfg : Config) (pending : Bytes) (k : Nat) :
    (portRead cfg pending k).1.isEmpty = pending.isEmpty := by
  cases pending with
  | nil => simp
  | cons b rest =>
    have h : readCount cfg (b :: rest) k = (readCount cfg (b :: rest) k - 1) + 1 := by
      simp only [readCount, List.length_cons]
      omega
    simp only [portRead]
    rw [h]
    simp

/-- TRANSACTION does one of three things (R200). -/
theorem transaction_cases (s : State) :
    (s.eng.rxFault = true ∧ s.transaction = s.raise .rxOverflow) ∨
    (s.eng.rxFault = false ∧ s.eng.busy = true ∧ s.transaction = s.raise .busy) ∨
    (s.eng.rxFault = false ∧ s.eng.busy = false ∧ s.transaction = s.accept) := by
  unfold State.transaction
  cases hf : s.eng.rxFault <;> cases hb : s.eng.busy <;> simp

/-- TXN_POLL does one of four things (R201 to R204). -/
theorem execTxnPoll_cases (s : State) :
    (s.eng.busy = false ∧ execTxnPoll s = .next s) ∨
    (s.eng.busy = true ∧ s.eng.latest ≠ [] ∧ execTxnPoll s = .next s.takeLatest) ∨
    (s.eng.busy = true ∧ s.eng.latest = [] ∧ s.eng.timeoutLatched ≤ s.env.now - s.eng.t0 ∧
      execTxnPoll s = .next s.timeOut) ∨
    (s.eng.busy = true ∧ s.eng.latest = [] ∧ s.env.now - s.eng.t0 < s.eng.timeoutLatched ∧
      execTxnPoll s = .next s) := by
  unfold execTxnPoll pollEnabled dataReady deadlinePassed
  by_cases h : s.eng.timeoutLatched ≤ s.env.now - s.eng.t0
  · cases hb : s.eng.busy <;> cases hl : s.eng.latest <;> simp [h]
  · cases hb : s.eng.busy <;> cases hl : s.eng.latest <;> simp [h, Nat.lt_of_not_le h]

/-- RD_STEP does one of five things (R196 to R199). -/
theorem execRdStep_cases (k : Nat) (s : State) :
    (readerEnabled s = false ∧ execRdStep k s = .next s) ∨
    (readerEnabled s = true ∧ s.env.rxPending = [] ∧ s.eng.acc = [] ∧ execRdStep k s = .next s) ∨
    (readerEnabled s = true ∧ s.env.rxPending = [] ∧ s.eng.acc ≠ [] ∧
      execRdStep k s = .next (s.setEng { s.eng with latest := s.eng.acc, acc := [] })) ∨
    (readerEnabled s = true ∧ s.env.rxPending ≠ [] ∧ overflows s (portRead s.cfg s.env.rxPending k).1 = false ∧
      execRdStep k s = .next
        ((s.setEnv { s.env with rxPending := (portRead s.cfg s.env.rxPending k).2 }).setEng
          { s.eng with acc := s.eng.acc ++ (portRead s.cfg s.env.rxPending k).1 })) ∨
    (readerEnabled s = true ∧ s.env.rxPending ≠ [] ∧ overflows s (portRead s.cfg s.env.rxPending k).1 = true ∧
      execRdStep k s = .next
        (((s.setEnv { s.env with rxPending := (portRead s.cfg s.env.rxPending k).2 }).setEng
          { s.eng with rxFault := true, acc := Config.freeAcc s.draws }).draw)) := by
  cases hr : readerEnabled s with
  | false => exact .inl ⟨rfl, by simp [execRdStep, hr]⟩
  | true =>
    refine .inr ?_
    by_cases hp : s.env.rxPending = []
    · have hs : s.setEnv { s.env with rxPending := [] } = s := by rw [← hp]; rfl
      by_cases ha : s.eng.acc = []
      · exact .inl ⟨rfl, hp, ha, by simp [execRdStep, hr, hp, hs, State.publish, ha]⟩
      · exact .inr (.inl ⟨rfl, hp, ha, by simp [execRdStep, hr, hp, hs, State.publish, ha]⟩)
    · have he : (portRead s.cfg s.env.rxPending k).1.isEmpty = false := by
        rw [portRead_isEmpty]
        simpa using hp
      have ho : ∀ e r, overflows (s.setEnv e) r = overflows s r := fun _ _ => rfl
      cases hov : overflows s (portRead s.cfg s.env.rxPending k).1 with
      | false =>
        exact .inr (.inr (.inl ⟨rfl, hp, rfl, by
          simp [execRdStep, hr, he, State.accumulate, ho, hov]⟩))
      | true =>
        exact .inr (.inr (.inr ⟨rfl, hp, rfl, by
          simp [execRdStep, hr, he, State.accumulate, ho, hov]⟩))

/-- FRAME_ENC leaves the engine, the port and the waiting EXCHANGE alone (R161). -/
theorem frameEnc_keeps (s : State) :
    s.frameEnc.eng = s.eng ∧ s.frameEnc.env = s.env ∧ s.frameEnc.cfg = s.cfg ∧ s.frameEnc.args = s.args ∧
      s.frameEnc.exchanging = s.exchanging ∧ s.frameEnc.toDecode = s.toDecode ∧ s.frameEnc.schedule = s.schedule ∧
      ∀ id, s.frameEnc.regSet id = s.regSet id := by
  unfold State.frameEnc
  split <;> exact ⟨rfl, rfl, rfl, rfl, rfl, rfl, rfl, fun id => by cases id <;> rfl⟩

/-- An operation of the Primitive Codec that reports bytes changes the result ports only (R25, R147). -/
theorem completeBytes_keeps (s : State) (r : Except SubCause Bytes) :
    s.completeBytes r = { s with res := (s.completeBytes r).res, draws := s.draws + 1 } := by
  cases r <;> rfl

/-- An operation of the Primitive Codec that reports a value changes the result ports only (R25, R147). -/
theorem completeValue_keeps (s : State) (r : Except SubCause (BitVec 64)) :
    s.completeValue r = { s with res := (s.completeValue r).res, draws := s.draws + 1 } := by
  cases r <;> rfl

/-- Sending a command does one of two things: FRAME_ENC refuses, or TRANSACTION is requested with the frame (R102). -/
theorem sendCommand_cases (s : State) :
    (payloadBound s.cfg < s.args.inBuf.length ∧ s.sendCommand = s.raise (.encodingError .valueOutOfRange)) ∨
    (s.args.inBuf.length ≤ payloadBound s.cfg ∧
      s.sendCommand = (s.frameEnc.setInBuf s.frameEnc.res.outBuf).transaction) := by
  by_cases h : payloadBound s.cfg < s.args.inBuf.length
  · left
    have he : s.frameEnc = s.raise (.encodingError .valueOutOfRange) := by simp [State.frameEnc, h]
    exact ⟨h, by simp [State.sendCommand, he, statusCode]⟩
  · right
    have hs : s.frameEnc.res.status = statusCode .ok := by simp [State.frameEnc, h]
    exact ⟨by omega, by simp [State.sendCommand, hs]⟩

/-- The host's EXCHANGE notes the end of its transaction, or nothing happens (R102). -/
theorem continueExchange_cases (t : State) :
    (t.exchanging = true ∧ t.eng.busy = false ∧ t.eng.txnState = .dataReady ∧
      continueExchange t = (t.setExchanging false).setToDecode (t.toDecode ++ [t.res.outBuf])) ∨
    (t.exchanging = true ∧ t.eng.busy = false ∧ t.eng.txnState ≠ .dataReady ∧
      continueExchange t = (t.setExchanging false).setToDecode t.toDecode) ∨
    ((t.exchanging = false ∨ t.eng.busy = true) ∧ continueExchange t = t) := by
  unfold continueExchange
  cases he : t.exchanging <;> cases hb : t.eng.busy <;> simp
  by_cases hd : t.eng.txnState = .dataReady <;> simp [hd]

/-- Assigning values keeps the declared types (R231). -/
theorem assignValues_types (regs : RegSet) (vs : List (BitVec 64)) :
    (assignValues regs vs).map Reg.ty = regs.map Reg.ty := by
  induction regs generalizing vs with
  | nil => rfl
  | cons r rest ih =>
    cases vs with
    | nil => rfl
    | cons v vs => simp [assignValues, ih]

/-- DESERIALIZE keeps the declared types (R231, R236). -/
theorem deserializeFrom_types {n i : Nat} {regs out : RegSet} {payload : Bytes}
    (h : deserializeFrom n i regs payload = .ok out) : out.map Reg.ty = regs.map Reg.ty := by
  induction regs generalizing i payload out with
  | nil => cases h; rfl
  | cons r rest ih =>
    simp only [deserializeFrom] at h
    split at h
    · cases h
    · split at h
      · cases h
      · rename_i hrest
        cases h
        simp [ih hrest]

end Sys2Proof.Machine
end

