-- ==== Sys2Proof/Laws/Step.lean ====
section
/-! SUPPORT. What a step can do, said once: fetching, and the inversion of `step`. -/

namespace Sys2Proof.Machine

/-- An agent's free step is one the spec has (R66, R193, R194). -/
theorem autonomous_cases (n : Nat) : autonomous n = .resume ∨ ∃ i, autonomous n = .act i ∧ i.wellFormed = true := by
  unfold autonomous
  split <;> simp [Instr.wellFormed]

theorem decodeOpSel_wellFormed (c : BitVec 4) : (decodeOpSel c).wellFormed = true := by
  unfold decodeOpSel
  split <;> rfl

theorem decodeOpcode_wellFormed {rb b : Byte} {i : Instr} (h : decodeOpcode rb b = some i) : i.wellFormed = true := by
  unfold decodeOpcode at h
  repeat' split at h
  all_goals first | (cases h; rfl) | cases h

/-- What comes next (R66, R67): the event at the head of the schedule, or the free agent's. -/
theorem nextEvent_cases (s : State) :
    (s.schedule = [] ∧ nextEvent s = (autonomous s.draws, s.draw)) ∨
    ∃ e rest, s.schedule = e :: rest ∧ nextEvent s = (e, s.setSchedule rest) := by
  cases h : s.schedule with
  | nil => exact .inl ⟨rfl, by simp [nextEvent, h]⟩
  | cons e rest => exact .inr ⟨e, rest, rfl, by simp [nextEvent, h]⟩

/-- Taking up an event uses up the schedule or the free values, and nothing else. -/
theorem nextEvent_eq (s : State) :
    (nextEvent s).2 = { s with schedule := s.schedule.tail, draws := (nextEvent s).2.draws } := by
  rcases nextEvent_cases s with ⟨h, hn⟩ | ⟨e, rest, h, hn⟩
  · simp [hn, State.draw, h]
  · simp [hn, State.setSchedule, h]

/-- What an event does: the host's own writes, a coded or uncoded instruction, the host's FRAME_DEC, a turn that passes,
or a byte that is no constant of R98. -/
theorem fetchEvent_cases (e : Event) (t : State) :
    (∃ a, e = .drive a ∧ fetchEvent e t = .host (t.setArgs a)) ∨
    (∃ set vs, e = .assign set vs ∧ fetchEvent e t = .host (t.setRegSet set (assignValues (t.regSet set) vs))) ∨
    (∃ c, e = .request c ∧ fetchEvent e t = .run (decodeOpSel c) (t.setOpSel c)) ∨
    (∃ b i, e = .opcode b ∧ decodeOpcode t.cfg.opcReadbackError b = some i ∧ fetchEvent e t = .run i t) ∨
    (∃ b, e = .opcode b ∧ decodeOpcode t.cfg.opcReadbackError b = none ∧ fetchEvent e t = .reject b) ∨
    (∃ i, e = .act i ∧ fetchEvent e t = .run i t) ∨
    (e = .resume ∧ t.toDecode = [] ∧ fetchEvent e t = .host t) ∨
    (∃ b more, e = .resume ∧ t.toDecode = b :: more ∧
      fetchEvent e t = .run .frameDec (((t.setToDecode more).setInBuf b).setOpSel 0x8)) := by
  cases e with
  | opcode b => cases hd : decodeOpcode t.cfg.opcReadbackError b <;> simp [fetchEvent, hd]
  | resume => cases hd : t.toDecode <;> simp [fetchEvent, hd]
  | _ => simp [fetchEvent]

/-- A step that answers a next state is the host's own write, or an instruction's effect with the host's EXCHANGE going
on after it (R102). -/
theorem step_next {s t : State} (h : step s = .next t) :
    fetch s = .host t ∨
    ∃ i u v, fetch s = .run i u ∧ exec i u = .next v ∧ t = continueExchange v := by
  unfold step at h
  cases hf : fetch s with
  | host u =>
    rw [hf] at h
    cases h
    exact .inl rfl
  | reject b =>
    rw [hf] at h
    cases h
  | run i u =>
    rw [hf] at h
    refine .inr ⟨i, u, ?_⟩
    cases he : exec i u with
    | next v =>
      simp [he, settle] at h
      exact ⟨v, rfl, rfl, h.symm⟩
    | fault f => nomatch f
    | refused r => simp [he, settle] at h

end Sys2Proof.Machine
end

