-- ==== Sys2Proof/Tests/Slice0.lean ====
section
/-! SUPPORT. The model's own tests. Expected values are the spec's: the vector a test takes them from (V-..., of
spec/95_test_vectors.md) or the rule stands in its docstring. CRC bytes rest on the candidate tables (log entry 1).
The second half holds, for each obligation with hypotheses, a state that meets them. -/

namespace Sys2Proof.Tests

open Sys2Proof.Machine

-- One test is evaluated at a time: many at once need more thread stacks than the check's memory limit admits.
set_option Elab.async false

/-- The state after a step that gives one. -/
def nextOf : Answer → Option State
  | .next t => some t
  | .fault _ => none
  | .refused _ => none

/-- What `f` reads in the state after `exec i s`. -/
def seen {α : Type} (f : State → α) (i : Instr) (s : State) : Option α := (nextOf (exec i s)).map f

/-- The reset state with these operands on the ports. -/
def given (value : BitVec 64) (width : Nat) (inBuf : Bytes) : State :=
  State.reset.setArgs { value := value, width := width, opcode := 0, timeout := 0, inBuf := inBuf }

/-- The reset state with a frame's operands on the ports. -/
def givenFrame (opcode : BitVec 16) (inBuf : Bytes) : State :=
  State.reset.setArgs { value := 0, width := 0, opcode := opcode, timeout := 100, inBuf := inBuf }

/-- `s` with another configuration. -/
def configured (c : Config) (s : State) : State := { s with cfg := c }

/-- The reset state with the reader started and its buffers and the port as given. -/
def reading (acc latest pending : Bytes) : State :=
  { State.reset with
    eng := { State.reset.eng with started := true, acc := acc, latest := latest }
    env := { State.reset.env with rxPending := pending } }

/-- `s` with a transaction pending since time 0, with timeout `timeout`, at time `now`. -/
def waiting (timeout now : Time) (s : State) : State :=
  { s with
    eng := { s.eng with busy := true, txnState := .reading, t0 := 0, timeoutLatched := timeout }
    env := { s.env with now := now } }

/-- RSP_LOGIN of spec/95_test_vectors.md, section 2.7. -/
def rspLogin : Bytes := [0x7E, 0x03, 0x00, 0x00, 0x00, 0x80, 0x00, 0x00, 0x28, 0x70, 0xFF]

/-- F_LOGIN, which is V-F1. -/
def fLogin : Bytes := [0x7E, 0x02, 0x00, 0x00, 0x00, 0x80, 0x00, 0x70, 0x60, 0xFF]

/-! ## Well-formedness -/

/-- A read of no pending byte is a step: `k = 0` where nothing is pending (R193). -/
theorem test_wellFormed_admits_empty_read : Instr.wellFormed (.rdStep 0) = true := by decide

/-- A delivery is non-empty (R193). -/
theorem test_wellFormed_refuses_empty_delivery : Instr.wellFormed (.envRx []) = false := by decide

/-- Time advances by more than 0 (R194). -/
theorem test_wellFormed_refuses_tick_of_zero : Instr.wellFormed (.tick 0) = false := by decide

/-- The length field holds `n + 3` (R82). -/
theorem test_wellFormed_refuses_overlong_response :
    Instr.wellFormed (.frameRsp 0x80 0x00 0x00 (List.replicate (256 ^ 4 - 3) 0x00)) = false := by
  simp only [Instr.wellFormed, List.length_replicate]; decide

/-- A term that is no step of the spec stops nothing: a TICK of 0 changes nothing. -/
theorem test_tick_of_zero_changes_nothing :
    step (State.reset.setSchedule [.act (.tick 0)]) = .next State.reset := rfl

/-! ## Decoding, by words written out from R95, R99 and R98 -/

theorem test_decode_codes_of_codec_operations :
    decodeTableWord 4 0b0000 = some .crc16 ∧ decodeTableWord 4 0b0001 = some .encUint ∧
      decodeTableWord 4 0b0010 = some .decUint ∧ decodeTableWord 4 0b0011 = some .encFloat ∧
      decodeTableWord 4 0b0100 = some .decFloat ∧ decodeTableWord 4 0b0101 = some .decBool ∧
      decodeTableWord 4 0b0110 = some .encBool := by decide +kernel

theorem test_decode_codes_of_frame_and_engine_operations :
    decodeTableWord 4 0b0111 = some .frameEnc ∧ decodeTableWord 4 0b1000 = some .frameDec ∧
      decodeTableWord 4 0b1001 = some .start ∧ decodeTableWord 4 0b1010 = some .transaction := by decide +kernel

theorem test_decode_reserved_codes :
    decodeTableWord 4 0b1011 = some .reservedB ∧ decodeTableWord 4 0b1100 = some .reservedC ∧
      decodeTableWord 4 0b1101 = some .reservedD ∧ decodeTableWord 4 0b1110 = some .reservedE ∧
      decodeTableWord 4 0b1111 = some .reservedF := by decide +kernel

theorem test_decode_opcode_constants :
    decodeTableWord 8 0b10000000 = some .opcLogin ∧ decodeTableWord 8 0b10000001 = some .opcLogout ∧
      decodeTableWord 8 0b11010000 = some .opcTestCommand ∧
      decodeTableWord 8 0b11010001 = some .opcOnlineAdjust ∧
      decodeTableWord 8 0b11010010 = some .opcReadbackSampling ∧
      decodeTableWord 8 0b11010011 = some .opcStopTest ∧
      decodeTableWord 8 0b11010101 = some .opcReadbackError := by decide +kernel

/-- `0xD4` is no constant while `OPC_READBACK_ERROR` is `0xD5`, and is one where it is configured so (R98). -/
theorem test_decode_readback_error_is_configured :
    decodeTableWord 8 0xD4 = none ∧ decodeOpcode 0xD4 0xD4 = some .opcReadbackError := by decide +kernel

/-- A byte sequence gives its instruction and the bytes after it; an empty one is refused by name. -/
theorem test_decode_bytes_keeps_rest :
    decodeBytes 0xD5 [0x0A, 0x80] = .ok (.transaction, [0x80]) ∧ decodeBytes 0xD5 [] = .error .noByte ∧
      decodeBytes 0xD5 [0x10] = .error (.noSuchCode 0x10) := by
  refine ⟨rfl, rfl, rfl⟩

/-- A word placed by `withFetchWord` is what the next step runs. -/
theorem test_fetch_word_runs_start :
    (nextOf (step (State.reset.withFetchWord 4 0b1001))).map (fun t => (t.opSel, t.eng.started)) =
      some (0x9, true) := by decide +kernel

theorem test_fetch_word_runs_opcode :
    (nextOf (step (State.reset.withFetchWord 8 0xD3))).map (fun t => t.args.opcode) = some 0x00D3 := by
  decide +kernel

/-- A byte outside both maps is refused by name. -/
theorem test_step_refuses_unknown_opcode :
    step (State.reset.setSchedule [.opcode 0xD4]) = .refused (.noSuchCode 0xD4) := rfl

/-- The decoder's word form and the machine start from the same `OPC_READBACK_ERROR` (R7). -/
theorem test_default_readback_error : State.reset.cfg.opcReadbackError = defaultReadbackError := by decide

/-! ## CRC-16 Engine -/

/-- One entry of the candidate tables, as R118 generates it: eight shifts of the reflected polynomial. -/
def generated (c : BitVec 16) : (times : Nat) → BitVec 16
  | 0 => c
  | n + 1 => generated (if c.getLsbD 0 then (c >>> 1) ^^^ 0xA001 else c >>> 1) n

/-- The listing of R118 is what its generation gives. -/
theorem test_candidate_tables_are_generated :
    ∀ i : Fin 256, State.reset.cfg.tableHi.get i = (generated (BitVec.ofNat 16 i.val) 8).extractLsb' 0 8 ∧
      State.reset.cfg.tableLo.get i = (generated (BitVec.ofNat 16 i.val) 8).extractLsb' 8 8 := by
  decide +kernel

/-- V-CRC9. -/
theorem test_crc16_of_check_message :
    seen (fun t => (t.res.status, t.res.crcLow, t.res.crcHigh)) .crc16
      (given 0 0 [0x31, 0x32, 0x33, 0x34, 0x35, 0x36, 0x37, 0x38, 0x39]) = some (0x0, 0x4B, 0x37) := by
  decide +kernel

/-- V-CRC1. -/
theorem test_crc16_of_empty_message :
    seen (fun t => (t.res.crcLow, t.res.crcHigh)) .crc16 (given 0 0 []) = some (0xFF, 0xFF) := by decide +kernel

/-! ## Primitive Codec -/

/-- V-U8. -/
theorem test_encUint_is_little_endian :
    seen (fun t => (t.res.status, t.res.outBuf)) .encUint (given 0x12345678 4 []) =
      some (0x0, [0x78, 0x56, 0x34, 0x12]) := by decide +kernel

/-- V-U12, under `truncate`. -/
theorem test_encUint_truncates :
    seen (fun t => (t.res.status, t.res.outBuf)) .encUint
      (configured { initialConfig with uintOverflow := .truncate } (given 65536 2 [])) =
      some (0x0, [0x00, 0x00]) := by decide +kernel

/-- V-U15. -/
theorem test_decUint_is_unsigned :
    seen (fun t => (t.res.status, t.res.value)) .decUint (given 0 2 [0xFF, 0xFF]) = some (0x0, 65535) := by
  decide +kernel

/-- V-U24. -/
theorem test_decUint_reports_width_first :
    seen (fun t => (t.res.status, t.res.info)) .decUint (given 0 8 [0x01, 0x02]) = some (0x5, 0x1) := by
  decide +kernel

/-- V-E12: `1 + 2^-23 + 2^-24` is a tie. -/
theorem test_encFloat_rounds_tie_to_even :
    seen (fun t => (t.res.status, t.res.outBuf)) .encFloat (given 0x3FF0000030000000 4 []) =
      some (0x0, [0x02, 0x00, 0x80, 0x3F]) := by decide +kernel

/-- V-E16. -/
theorem test_encFloat_refuses_overflow :
    seen (fun t => (t.res.status, t.res.info)) .encFloat (given 0x47EFFFFFF0000000 4 []) = some (0x5, 0x3) := by
  decide +kernel

/-- V-G12: `1023 * 2^-24`. -/
theorem test_decFloat_of_half_subnormal :
    seen (fun t => (t.res.status, t.res.value)) .decFloat (given 0 2 [0xFF, 0x03]) =
      some (0x0, 0x3F0FF80000000000) := by decide +kernel

/-- V-G4. -/
theorem test_decFloat_is_exact :
    seen (fun t => (t.res.status, t.res.value)) .decFloat (given 0 4 [0xCD, 0xCC, 0xCC, 0x3D]) =
      some (0x0, 0x3FB99999A0000000) := by decide +kernel

/-- V-B2. -/
theorem test_decBool_of_other_byte :
    seen (fun t => (t.res.status, t.res.value)) .decBool (given 0 0 [0x80]) = some (0x0, 1) := by decide +kernel

/-- V-B3. -/
theorem test_decBool_refuses_two_bytes :
    seen (fun t => (t.res.status, t.res.info)) .decBool (given 0 0 [0x00, 0x00]) = some (0x5, 0x2) := by
  decide +kernel

/-- V-B4. -/
theorem test_encBool :
    seen (fun t => t.res.outBuf) .encBool (given 1 0 []) = some [0x01] ∧
      seen (fun t => t.res.outBuf) .encBool (given 0 0 []) = some [0x00] := by decide +kernel

/-! ## Frame Codec -/

/-- V-F4: the opcode's high byte does not reach the wire. -/
theorem test_frameEnc_drops_high_byte :
    seen (fun t => (t.res.status, t.res.outBuf, t.env.txStream)) .frameEnc (givenFrame 0x1234 [0xAA, 0xBB]) =
      some (0x0, [0x7E, 0x04, 0x00, 0x00, 0x00, 0x34, 0x00, 0xAA, 0xBB, 0xC7, 0x30, 0xFF], []) := by
  decide +kernel

/-- V-F4d. -/
theorem test_frameEnc_refuses_long_payload :
    seen (fun t => (t.res.status, t.res.info)) .frameEnc
      (configured { initialConfig with maxPayload := 1 } (givenFrame 0x0080 [0x00, 0x00])) =
      some (0x5, 0x3) := by decide +kernel

/-- V-DEC3. -/
theorem test_frameDec_of_high_opcode :
    seen (fun t => (t.res.status, t.res.opcode, t.res.errCode, t.res.outBuf)) .frameDec
      (given 0 0 [0x7E, 0x05, 0x00, 0x00, 0x00, 0xD2, 0x01, 0x00, 0xDE, 0xAD, 0xF3, 0x05, 0xFF]) =
      some (0x0, 0x01D2, 0x00, [0xDE, 0xAD]) := by decide +kernel

/-- V-DEC20: length before CRC. -/
theorem test_frameDec_reports_length_first :
    seen (fun t => t.res.status) .frameDec
      (given 0 0 [0x7E, 0x04, 0x00, 0x00, 0x00, 0x80, 0x00, 0x00, 0x29, 0x70, 0xFF]) = some 0x3 := by
  decide +kernel

/-! ## Serial Transaction Engine -/

/-- V-T11: a second START. -/
theorem test_start_twice :
    seen (fun t => (t.eng.started, t.eng.latest, t.res.status)) .start (reading [] [0x01] []) =
      some (true, [0x01], 0x0) := by decide +kernel

/-- V-T1, step 2. -/
theorem test_transaction_is_accepted :
    seen (fun t => (t.eng.busy, t.eng.txnState, t.env.txStream, t.eng.timeoutLatched)) .transaction
      (givenFrame 0 fLogin) = some (true, .reading, fLogin, 100) := by decide +kernel

/-- V-T2. -/
theorem test_transaction_is_busy :
    seen (fun t => (t.res.status, t.env.txStream, t.eng.timeoutLatched)) .transaction
      (waiting 77 0 (givenFrame 0 [0xAA])) = some (0x9, [], 77) := by decide +kernel

/-- V-T12: `6 + 5 > 8`. -/
theorem test_rdStep_overflows :
    seen (fun t => (t.eng.rxFault, t.env.rxPending)) (.rdStep 5)
      (configured { initialConfig with rxBufMax := some 8 } (reading [1, 2, 3, 4, 5, 6] [] [7, 8, 9, 10, 11])) =
      some (true, []) := by decide +kernel

/-- V-T8: the publish overwrites. -/
theorem test_rdStep_overwrites :
    seen (fun t => (t.eng.latest, t.eng.acc)) (.rdStep 1) (reading [0x03] [0x01, 0x02] []) =
      some ([0x03], []) := by decide +kernel

/-- V-T9: data beats the deadline. -/
theorem test_txnPoll_prefers_data :
    seen (fun t => (t.res.status, t.res.outBuf, t.eng.latest, t.eng.txnState)) .txnPoll
      (waiting 10 50 (reading [] rspLogin [])) = some (0x0, rspLogin, [], .dataReady) := by decide +kernel

/-- V-T1, step 8. -/
theorem test_txnPoll_times_out :
    seen (fun t => (t.res.status, t.res.outBuf, t.eng.busy, t.eng.txnState)) .txnPoll
      (waiting 100 100 (reading [] [] [])) = some (0x8, [], false, .timedOut) := by decide +kernel

/-- V-T4, step 9. -/
theorem test_envRx_appends :
    seen (fun t => t.env.rxPending) (.envRx [0x02, 0x03]) (reading [] [] [0x01]) = some [0x01, 0x02, 0x03] := by
  decide +kernel

/-- V-T1, steps 5 and 7. -/
theorem test_tick_advances :
    seen (fun t => t.env.now) (.tick 1) (waiting 100 99 State.reset) = some 100 := by decide +kernel

/-- V-T13. -/
theorem test_reset_abandons_transaction :
    seen (fun t => ((t.eng.started, t.eng.busy, t.eng.txnState), t.eng.acc, t.eng.latest, t.env.txStream,
        t.env.rxPending)) .reset
      (waiting 100 0 (reading [0x01] [0x02] [0x03])) =
      some ((false, false, .idle), [], [], [], [0x03]) := by decide +kernel

/-! ## Reserved codes, opcode constants, statuses -/

/-- V-O1, while a transaction is pending. -/
theorem test_reserved_codes :
    [Instr.reservedB, .reservedC, .reservedD, .reservedE, .reservedF].map
      (fun i => seen (fun t => (t.res.status, t.eng.busy)) i (waiting 100 0 State.reset)) =
      List.replicate 5 (some (0xF, true)) := by decide +kernel

/-- R98. -/
theorem test_opcode_constants :
    [Instr.opcLogin, .opcLogout, .opcTestCommand, .opcOnlineAdjust, .opcReadbackSampling, .opcStopTest,
        .opcReadbackError].map (fun i => seen (fun t => t.args.opcode) i State.reset) =
      [some 0x80, some 0x81, some 0xD0, some 0xD1, some 0xD2, some 0xD3, some 0xD5] := by decide +kernel

/-- V-O2 and R97. -/
theorem test_status_codes :
    [Instr.statusOk, .statusFrameEmpty, .statusFrameInvalidMarkers, .statusFrameLengthMismatch,
        .statusFrameCrcMismatch, .statusEncodingError .sliceLength, .statusRegisterLengthMismatch,
        .statusRangeError, .statusTransactionTimeout, .statusBusy, .statusRxOverflow,
        .statusIllegalOperation].map (fun i => seen (fun t => (t.res.status, t.res.info)) i State.reset) =
      [some (0x0, 0), some (0x1, 0), some (0x2, 0), some (0x3, 0), some (0x4, 0), some (0x5, 2), some (0x6, 0),
        some (0x7, 0), some (0x8, 0), some (0x9, 0), some (0xA, 0), some (0xF, 0)] := by decide +kernel

/-! ## Pseudo-operations and frames on the wire -/

/-- P2, requests 2 and 3, as one EXCHANGE. -/
theorem test_exchange_sends_and_waits :
    seen (fun t => (t.env.txStream, t.eng.busy, t.exchanging)) .exchange (givenFrame 0x0080 []) =
      some (fLogin, true, true) := by decide +kernel

/-- A waiting EXCHANGE whose response is published (P2), with these events to come. -/
def answered (es : List Event) : State :=
  ((waiting 100 10 (reading [] rspLogin [])).setExchanging true).setSchedule es

/-- P2, request 9: the poll takes the buffer, and the host keeps it for FRAME_DEC. -/
theorem test_exchange_keeps_buffer :
    (nextOf (step (answered [.act .txnPoll]))).map (fun t => (t.exchanging, t.toDecode)) =
      some (false, [rspLogin]) := by decide +kernel

/-- R66: the environment and the reader step between the take and the FRAME_DEC of P2's response. -/
theorem test_exchange_goes_on_after_others :
    (nextOf (step (answered [.act .txnPoll, .act (.envRx [0x01]), .act (.rdStep 1), .resume]))
      >>= fun t => nextOf (step t) >>= fun t => nextOf (step t) >>= fun t => nextOf (step t)).map
        (fun t => (t.res.status, t.res.opcode, t.eng.acc, t.toDecode, t.opSel)) =
      some (0x0, 0x0080, [0x01], [], 0x8) := by decide +kernel

/-- R81 on the wire: V-F3. -/
theorem test_frameCmd_is_sent :
    seen (fun t => (t.env.txStream, t.exchanging)) .frameCmd (givenFrame 0x00D5 []) =
      some ([0x7E, 0x02, 0x00, 0x00, 0x00, 0xD5, 0x00, 0x20, 0x5F, 0xFF], false) := by decide +kernel

/-- R82 on the wire: RSP_ERR5. -/
theorem test_frameRsp_arrives :
    seen (fun t => t.env.rxPending) (.frameRsp 0xD0 0x00 0x05 []) State.reset =
      some [0x7E, 0x03, 0x00, 0x00, 0x00, 0xD0, 0x00, 0x05, 0x3A, 0xB0, 0xFF] := by decide +kernel

/-- The test-configuration set of the scenario (R240). -/
def scenario (meter : MeterType) : State :=
  configured { initialConfig with meterType := meter }
    (State.reset.setRegSet .testConfig
      (assignValues (zeroSet meter .testConfig)
        [0, 0, 7, 0x406B800000000000, 0x4014000000000000, 0x3FF0000000000000, 1, 0x4049000000000000, 0, 5]))

/-- V-S3. -/
theorem test_serialize_scenario :
    seen (fun t => t.res.outBuf) (.serialize .testConfig) (scenario .float) =
      some [0x00, 0x00, 0x07, 0x00, 0x00, 0x5C, 0x43, 0x00, 0x00, 0xA0, 0x40, 0x00, 0x00, 0x80, 0x3F, 0x01,
        0x00, 0x00, 0x48, 0x42, 0x00, 0x00, 0x00, 0x00, 0x05, 0x00] := by decide +kernel

/-- V-S5. -/
theorem test_serialize_refuses_wide_byte :
    seen (fun t => (t.res.status, t.res.info)) (.serialize .testConfig)
      (State.reset.setRegSet .testConfig (assignValues (zeroSet .unsigned .testConfig) [256])) =
      some (0x5, 0x3) := by decide +kernel

/-- V-S4. -/
theorem test_deserialize_error_set :
    seen (fun t => t.errorSet.map Reg.value) (.deserialize .errorSet)
      (given 0 0 [0x01, 0x00, 0x00, 0x80, 0x3E, 0x00, 0x00, 0x00, 0xBF, 0x00, 0x00, 0xC0, 0x3F]) =
      some [1, 0x3FD0000000000000, 0xBFE0000000000000, 0x3FF8000000000000] := by decide +kernel

/-- V-S2. -/
theorem test_deserialize_refuses_other_length :
    seen (fun t => (t.res.status, t.sampling)) (.deserialize .sampling) (given 0 0 (List.replicate 79 0x00)) =
      some (0x6, State.reset.sampling) := by decide +kernel

/-! ## Witnesses: states and operands that meet the hypotheses of the obligations, clause by clause -/

/-- The reset state with this next on the schedule. -/
def scheduled (es : List Event) : State := State.reset.setSchedule es

/-- The layouts of the three sets in a state that has the reset state's sets and meter type. -/
theorem sets_of_reset {s : State} (h1 : s.testConfig = State.reset.testConfig) (h2 : s.sampling = State.reset.sampling)
    (h3 : s.errorSet = State.reset.errorSet) (h4 : s.cfg = State.reset.cfg) : SetsKeepLayout s := by
  intro id
  cases id <;> simp only [State.regSet, h1, h2, h3, h4] <;> decide

theorem witness_StepRunsScheduledEvent :
    State.reset.schedule = [] ∧ (scheduled [.request 0x9]).schedule = .request 0x9 :: [] ∧
      (scheduled [.opcode 0x80]).schedule = .opcode 0x80 :: [] ∧
      decodeOpcode (scheduled [.opcode 0x80]).cfg.opcReadbackError 0x80 = some .opcLogin ∧
      (scheduled [.act (.tick 1)]).schedule = .act (.tick 1) :: [] ∧
      (scheduled [.drive State.reset.args]).schedule = .drive State.reset.args :: [] ∧
      (scheduled [.assign .errorSet [1]]).schedule = .assign .errorSet [1] :: [] ∧
      ((scheduled [.resume]).setToDecode [rspLogin]).schedule = .resume :: [] ∧
      ((scheduled [.resume]).setToDecode [rspLogin]).toDecode = rspLogin :: [] ∧
      (scheduled [.resume]).toDecode = [] ∧
      State.reset.exchanging = false ∧ (State.reset.setExchanging true).exchanging = true ∧
      (State.reset.setExchanging true).eng.busy = false ∧ (waiting 100 0 State.reset).eng.busy = true := by
  exact ⟨rfl, rfl, rfl, rfl, rfl, rfl, rfl, rfl, rfl, rfl, rfl, rfl, rfl, rfl⟩

/-- With nothing scheduled, and with an opcode byte outside R98. -/
theorem witness_OnlyUnknownOpcodesStopTheMachine :
    (∀ b rest, State.reset.schedule = .opcode b :: rest →
      decodeOpcode State.reset.cfg.opcReadbackError b ≠ none) ∧
      (scheduled [.opcode 0xD4]).schedule = .opcode 0xD4 :: [] ∧
      decodeOpcode (scheduled [.opcode 0xD4]).cfg.opcReadbackError 0xD4 = none := by
  refine ⟨?_, rfl, rfl⟩
  intro b rest h; cases h

theorem witness_EveryStepKeepsInvariant :
    ∃ t, (waiting 100 100 (scheduled [.act .txnPoll])).Inv ∧
      step (waiting 100 100 (scheduled [.act .txnPoll])) = .next t := by
  refine ⟨_, ⟨?_, ?_, ?_, sets_of_reset rfl rfl rfl rfl, ?_, ?_⟩, rfl⟩
  · unfold GuardMatches; decide
  · unfold LatchedInPast; decide
  · intro m h; cases h
  · unfold ExchangePending; decide
  · unfold ConfigInRange; decide

theorem witness_NoStepChangesConfiguration : ∃ t, step (scheduled [.request 0x9]) = .next t := ⟨_, rfl⟩

theorem witness_OnlyReaderWritesReaderState :
    (∃ t, exec (.rdStep 1) (reading [] [] [0x01]) = .next t ∧ t.eng.acc ≠ (reading [] [] [0x01]).eng.acc) ∧
    (∃ t, exec .reset (State.reset.setEng { State.reset.eng with rxFault := true }) = .next t ∧
      t.eng.rxFault ≠ (State.reset.setEng { State.reset.eng with rxFault := true }).eng.rxFault) ∧
    (∃ t, exec (.rdStep 1) (reading [0x01] [] []) = .next t ∧ t.eng.latest ≠ (reading [0x01] [] []).eng.latest) ∧
    ∃ t, exec .start State.reset = .next t ∧ t.eng.started ≠ State.reset.eng.started := by
  refine ⟨⟨_, rfl, ?_⟩, ⟨_, rfl, ?_⟩, ⟨_, rfl, ?_⟩, ⟨_, rfl, ?_⟩⟩ <;> decide

theorem witness_OnlyCallerWritesTransactionState :
    (∃ t, exec .transaction (givenFrame 0 [0xAA]) = .next t ∧ t.eng.busy ≠ (givenFrame 0 [0xAA]).eng.busy) ∧
      ∃ t, exec .transaction (givenFrame 0 [0xAA]) = .next t ∧
        t.env.txStream ≠ (givenFrame 0 [0xAA]).env.txStream := by
  refine ⟨⟨_, rfl, ?_⟩, ⟨_, rfl, ?_⟩⟩ <;> decide

theorem witness_OnlyEnvironmentMovesTimeAndArrivals :
    (∃ t, exec (.envRx [0x01]) State.reset = .next t ∧ t.env.rxPending ≠ State.reset.env.rxPending) ∧
      ∃ t, exec (.tick 1) State.reset = .next t ∧ t.env.now ≠ State.reset.env.now := by
  refine ⟨⟨_, rfl, ?_⟩, ⟨_, rfl, ?_⟩⟩ <;> decide

theorem witness_TxStreamOnlyGrowsByAcceptedWrites :
    ∃ t, exec .transaction (givenFrame 0 [0xAA]) = .next t ∧ Instr.transaction ≠ .reset ∧
      t.env.txStream = (givenFrame 0 [0xAA]).env.txStream ++ [0xAA] := by
  refine ⟨_, rfl, ?_, ?_⟩ <;> decide

theorem witness_RxFaultStaysUntilReset :
    (State.reset.setEng { State.reset.eng with rxFault := true }).eng.rxFault = true ∧
      (∃ t, exec .start (State.reset.setEng { State.reset.eng with rxFault := true }) = .next t) ∧
      Instr.start ≠ .reset := ⟨rfl, ⟨_, rfl⟩, by decide⟩

theorem witness_TxnStateFollowsArrows :
    GuardMatches (waiting 10 50 State.reset) ∧ (∃ t, exec .txnPoll (waiting 10 50 State.reset) = .next t) ∧
      Instr.txnPoll ≠ .reset := ⟨by unfold GuardMatches; decide, ⟨_, rfl⟩, by decide⟩

theorem witness_CodecResultsDependOnOperandsOnly :
    (given 5 2 []).args = (waiting 10 50 (given 5 2 [])).args ∧
      (given 5 2 []).cfg = (waiting 10 50 (given 5 2 [])).cfg ∧
      (given 5 2 []).draws = (waiting 10 50 (given 5 2 [])).draws ∧
      (∃ t, exec .encUint (given 5 2 []) = .next t) ∧
      ∃ t, exec .encUint (waiting 10 50 (given 5 2 [])) = .next t := ⟨rfl, rfl, rfl, ⟨_, rfl⟩, ⟨_, rfl⟩⟩

theorem witness_UnsupportedWidthIsRefused :
    (given 7 1 []).args.width ∉ [2, 4] ∧ (given 7 2 []).args.width ∉ [4, 8] ∧
      (given 7 3 []).args.width ∉ [2, 4, 8] := by decide +kernel

theorem witness_EncUintWritesLittleEndian :
    (given 65535 2 []).args.width ∈ [2, 4] ∧ (given 65535 2 []).args.value.toNat < 256 ^ (given 65535 2 []).args.width ∧
      (configured { initialConfig with uintOverflow := .truncate } (given 65536 2 [])).cfg.uintOverflow =
        .truncate ∧
      256 ^ (given 65536 2 []).args.width ≤ (given 65536 2 []).args.value.toNat ∧
      (given 65536 2 []).cfg.uintOverflow = .fault := by decide +kernel

theorem witness_DecUintSumsBytes :
    (given 0 1 [0x01]).args.width ∉ [2, 4] ∧ (given 0 2 [0x01]).args.width ∈ [2, 4] ∧
      (given 0 2 [0x01]).args.inBuf.length ≠ (given 0 2 [0x01]).args.width ∧
      (given 0 2 [0xFF, 0xFF]).args.inBuf = [0xFF, 0xFF] ∧ (given 0 2 [0xFF, 0xFF]).args.width = 2 ∧
      (given 0 4 [0xFF, 0xFF, 0xFF, 0xFF]).args.inBuf = [0xFF, 0xFF, 0xFF, 0xFF] ∧
      (given 0 4 [0xFF, 0xFF, 0xFF, 0xFF]).args.width = 4 := by decide +kernel

theorem witness_UintRoundTrips :
    (given 0xFFFFFFFF 4 []).args.width ∈ [2, 4] ∧
      (given 0xFFFFFFFF 4 []).args.value.toNat < 256 ^ (given 0xFFFFFFFF 4 []).args.width ∧
      (given 0 2 [0xFF, 0xFF]).args.inBuf.length = (given 0 2 [0xFF, 0xFF]).args.width := by decide +kernel

theorem witness_EncFloatWidthEightKeepsPattern : (given 0x3FF0000000000000 8 []).args.width = 8 := rfl

/-- V-E14: the largest binary32 value. -/
theorem witness_EncFloatRepresentableIsExact :
    (given 0x47EFFFFFE0000000 4 []).args.width = 4 ∧ isNan binary32 (0x7F7FFFFF : BitVec 32).toNat = false ∧
      SameValue binary64 (given 0x47EFFFFFE0000000 4 []).args.value.toNat binary32
        (0x7F7FFFFF : BitVec 32).toNat := by
  unfold SameValue; decide +kernel

/-- V-E15: the value just below the threshold. -/
theorem witness_EncFloatRoundsToNearestEven :
    (given 0x47EFFFFFEFFFFFFF 4 []).args.width = 4 ∧
      isFinite binary64 (given 0x47EFFFFFEFFFFFFF 4 []).args.value.toNat = true ∧
      magnitude binary64 (given 0x47EFFFFFEFFFFFFF 4 []).args.value.toNat < overflowThreshold := by
  decide +kernel

/-- V-E16: the threshold. -/
theorem witness_EncFloatOverflowFollowsPolicy :
    (given 0x47EFFFFFF0000000 4 []).args.width = 4 ∧
      isFinite binary64 (given 0x47EFFFFFF0000000 4 []).args.value.toNat = true ∧
      overflowThreshold ≤ magnitude binary64 (given 0x47EFFFFFF0000000 4 []).args.value.toNat ∧
      (given 0x47EFFFFFF0000000 4 []).cfg.f32Overflow = .fault ∧
      (configured { initialConfig with f32Overflow := .infinity }
        (given 0x47EFFFFFF0000000 4 [])).cfg.f32Overflow = .infinity := by decide +kernel

/-- V-E23, V-G8 and V-G18. -/
theorem witness_NanStaysNan :
    isNan binary64 (given 0x7FF0000000000001 4 []).args.value.toNat = true ∧
      (given 0 4 [0x00, 0x00, 0xC0, 0x7F]).args.inBuf = leBytes 4 (0x7FC00000 : BitVec 32).toNat ∧
      isNan binary32 (0x7FC00000 : BitVec 32).toNat = true ∧
      (given 0 2 [0x01, 0x7E]).args.inBuf = leBytes 2 (0x7E01 : BitVec 16).toNat ∧
      isNan binary16 (0x7E01 : BitVec 16).toNat = true := by decide +kernel

/-- V-G21, V-G12, V-G5 and V-G19. -/
theorem witness_DecFloatIsExact :
    ((given 0 8 [0x00, 0x00, 0x80, 0x3F]).args.width ∈ [2, 4, 8] ∧
      (given 0 8 [0x00, 0x00, 0x80, 0x3F]).args.inBuf.length ≠ (given 0 8 [0x00, 0x00, 0x80, 0x3F]).args.width) ∧
      ((given 0 2 [0xFF, 0x03]).args.inBuf = leBytes 2 (0x03FF : BitVec 16).toNat ∧
        isNan binary16 (0x03FF : BitVec 16).toNat = false) ∧
      ((given 0 4 [0x01, 0x00, 0x00, 0x00]).args.inBuf = leBytes 4 (0x00000001 : BitVec 32).toNat ∧
        isNan binary32 (0x00000001 : BitVec 32).toNat = false) ∧
      (given 0 8 [0x00, 0x00, 0x00, 0x00, 0x00, 0x00, 0xF0, 0x3F]).args.inBuf =
        leBytes 8 (0x3FF0000000000000 : BitVec 64).toNat := by decide +kernel

/-- V-G24: `-0.0`. -/
theorem witness_FloatRoundTrips :
    (given 0x3FB999999999999A 8 []).args.width = 8 ∧ (given 0x8000000000000000 4 []).args.width = 4 ∧
      ∃ p : BitVec 32, isNan binary32 p.toNat = false ∧
        SameValue binary64 (given 0x8000000000000000 4 []).args.value.toNat binary32 p.toNat := by
  refine ⟨rfl, rfl, 0x80000000, ?_⟩
  unfold SameValue; decide +kernel

theorem witness_DecBoolIsFalseIffZero :
    (given 0 0 [0x00]).args.inBuf = [0x00] ∧ (given 0 0 [0x80]).args.inBuf = [0x80] ∧
      (given 0 0 []).args.inBuf.length ≠ 1 := by decide +kernel

theorem witness_FrameEncLaysOutCommandFrame :
    ((givenFrame 0x80 []).args.inBuf.length ≤ (givenFrame 0x80 []).cfg.maxPayload ∧
      (givenFrame 0x80 []).args.inBuf.length ≤ 2 ^ 32 - 3) ∧
      (configured { initialConfig with maxPayload := 1 } (givenFrame 0x80 [0x00, 0x00])).cfg.maxPayload <
        (givenFrame 0x80 [0x00, 0x00]).args.inBuf.length := by decide +kernel

/-- V-DEC7, V-DEC18, V-DEC8a, V-DEC8b, V-DEC8d. -/
theorem witness_FrameDecReportsFirstFailure :
    (given 0 0 []).args.inBuf = [] ∧
      ((given 0 0 [0x7F, 0xFF]).args.inBuf.head? = some 0x7F ∧ (given 0 0 [0x7F, 0xFF]).args.inBuf.getLast? = some 0xFF) ∧
      ((given 0 0 [0x7E, 0xFF]).args.inBuf.head? = some 0x7E ∧ (given 0 0 [0x7E, 0xFF]).args.inBuf.getLast? = some 0xFF ∧
        (given 0 0 [0x7E, 0xFF]).args.inBuf.length < 5) ∧
      ((given 0 0 [0x7E, 0x00, 0x00, 0x00, 0xFF]).args.inBuf = 0x7E :: 0x00 :: 0x00 :: 0x00 :: 0xFF :: [] ∧
        (0x00 : Byte).toNat + (0x00 : Byte).toNat * 256 + (0x00 : Byte).toNat * 256 ^ 2 +
          (0xFF : Byte).toNat * 256 ^ 3 + 3 ≠ ([] : Bytes).length) ∧
      ((given 0 0 [0x7E, 0x00, 0x00, 0x00, 0x00, 0x12, 0x34, 0xFF]).args.inBuf =
          0x7E :: 0x00 :: 0x00 :: 0x00 :: 0x00 :: [0x12, 0x34, 0xFF] ∧
        (0x00 : Byte).toNat + (0x00 : Byte).toNat * 256 + (0x00 : Byte).toNat * 256 ^ 2 +
          (0x00 : Byte).toNat * 256 ^ 3 < 3) := by decide +kernel

/-- V-DEC16, V-DEC15 and V-DEC1. -/
theorem witness_FrameDecChecksCrcAndReturnsFields :
    ([] : Bytes).length + 3 < 256 ^ 4 ∧
      (given 0 0 [0x7E, 0x03, 0x00, 0x00, 0x00, 0x80, 0x00, 0x00, 0x70, 0x28, 0xFF]).args.inBuf =
        [0x7E] ++ leBytes 4 (([] : Bytes).length + 3) ++ ([0x80, 0x00, 0x00] ++ []) ++ [0x70, 0x28] ++ [0xFF] ∧
      (given 0 0 rspLogin).args.inBuf =
        [0x7E] ++ leBytes 4 (([] : Bytes).length + 3) ++ ([0x80, 0x00, 0x00] ++ []) ++ [0x28, 0x70] ++ [0xFF] ∧
      (given 0 0 rspLogin).cfg.crcStrict = true ∧
      seen (fun u => (u.res.crcLow, u.res.crcHigh)) .crc16 (given 0 0 ([0x80, 0x00, 0x00] ++ [])) =
        some (0x28, 0x70) ∧
      (0x70 : Byte) ≠ 0x28 ∧
      (configured { initialConfig with crcStrict := false } (given 0 0 rspLogin)).cfg.crcStrict = false := by
  decide +kernel

theorem witness_ResponseFrameDecodesToItsFields :
    (Instr.frameRsp 0x80 0x00 0x00 []).wellFormed = true ∧
      (given 0 0 rspLogin).args.inBuf = responseFrame (given 0 0 rspLogin).cfg 0x80 0x00 0x00 [] := by
  decide +kernel

theorem witness_FrameDecOfFrameEnc :
    (givenFrame 0x80 []).args.inBuf.length ≤ payloadBound (givenFrame 0x80 []).cfg ∧
      (givenFrame 0x80 []).args.inBuf = [] ∧ (givenFrame 0xD1 [0x01]).args.inBuf = 0x01 :: [] ∧
      (givenFrame 0xD1 [0x01]).args.inBuf.length ≤ payloadBound (givenFrame 0xD1 [0x01]).cfg := by decide +kernel

/-- V-DEC13, V-DEC1, and V-DEC9 and V-DEC12: the first and the last length byte. -/
theorem witness_ChangedLengthByteIsRefused :
    ((given 0 0 [0x7E, 0xFF, 0xFF, 0xFF, 0xFF, 0x80, 0x00, 0x00, 0x28, 0x70, 0xFF]).args.inBuf =
        0x7E :: 0xFF :: 0xFF :: 0xFF :: 0xFF :: [0x80, 0x00, 0x00, 0x28, 0x70, 0xFF] ∧
      (given 0 0 [0x7E, 0xFF, 0xFF, 0xFF, 0xFF, 0x80, 0x00, 0x00, 0x28, 0x70, 0xFF]).args.inBuf.getLast? =
        some 0xFF ∧
      4294967295 = (0xFF : Byte).toNat + (0xFF : Byte).toNat * 256 + (0xFF : Byte).toNat * 256 ^ 2 +
        (0xFF : Byte).toNat * 256 ^ 3 ∧
      4294967295 + 3 ≠ ([0x80, 0x00, 0x00, 0x28, 0x70, 0xFF] : Bytes).length) ∧
      (given 0 0 rspLogin).args.inBuf = 0x7E :: 0x03 :: 0x00 :: 0x00 :: 0x00 ::
        [0x80, 0x00, 0x00, 0x28, 0x70, 0xFF] ∧
      (given 0 0 rspLogin).args.inBuf.getLast? = some 0xFF ∧
      3 = (0x03 : Byte).toNat + (0x00 : Byte).toNat * 256 + (0x00 : Byte).toNat * 256 ^ 2 +
        (0x00 : Byte).toNat * 256 ^ 3 ∧
      3 + 3 = ([0x80, 0x00, 0x00, 0x28, 0x70, 0xFF] : Bytes).length ∧
      (given 0 0 rspLogin).args.inBuf[1]? ≠ some 0x02 ∧ (given 0 0 rspLogin).args.inBuf[4]? ≠ some 0x01 := by
  decide +kernel

theorem witness_TransactionIsAccepted : State.reset.eng.rxFault = false ∧ State.reset.eng.busy = false := by decide +kernel

theorem witness_TransactionIsRefused :
    (State.reset.setEng { State.reset.eng with rxFault := true }).eng.rxFault = true ∧
      (waiting 100 0 State.reset).eng.rxFault = false ∧ (waiting 100 0 State.reset).eng.busy = true := by decide +kernel

theorem witness_PollTakesPublishedBuffer :
    (waiting 10 50 (reading [] [0x01] [])).eng.busy = true ∧ (waiting 10 50 (reading [] [0x01] [])).eng.latest ≠ [] := by
  decide +kernel

theorem witness_PollTimesOut :
    (waiting 100 100 State.reset).eng.busy = true ∧ (waiting 100 100 State.reset).eng.latest = [] ∧
      (waiting 100 100 State.reset).env.now - (waiting 100 100 State.reset).eng.t0 ≥
        (waiting 100 100 State.reset).eng.timeoutLatched := by decide +kernel

theorem witness_PollWaits :
    (waiting 100 99 State.reset).eng.busy = true ∧ (waiting 100 99 State.reset).eng.latest = [] ∧
      (waiting 100 99 State.reset).env.now - (waiting 100 99 State.reset).eng.t0 <
        (waiting 100 99 State.reset).eng.timeoutLatched := by decide +kernel

/-- The run from `s` under an order of events. -/
def runOf (order : Nat → Event) (s : State) : Nat → State
  | 0 => s
  | n + 1 => (nextOf (step ((runOf order s n).supplied (order n)))).getD State.reset

/-- A run whose steps all give a next state, and keep what makes them do so, follows its order. -/
theorem runOf_follows {order : Nat → Event} {s : State} (P : State → Prop) (h0 : P s)
    (hs : ∀ n t, P t → ∃ u, step (t.supplied (order n)) = .next u ∧ P u) :
    Follows order (runOf order s) ∧ ∀ n, P (runOf order s n) := by
  have key : ∀ n, P (runOf order s n) := by
    intro n
    induction n with
    | zero => exact h0
    | succ n ih =>
      obtain ⟨u, hu, hp⟩ := hs n _ ih
      simpa [runOf, hu, nextOf] using hp
  refine ⟨fun n => ?_, key⟩
  obtain ⟨u, hu, -⟩ := hs n _ (key n)
  simp [runOf, hu, nextOf]

/-- An agent's step with nothing scheduled is fetched from the order. -/
theorem fetch_supplied {t : State} {i : Instr} (h : t.schedule = []) : fetch (t.supplied (.act i)) = .run i t := by
  have hs : t.setSchedule [] = t := by rw [← h]; rfl
  have hn : t.supplied (.act i) = t.setSchedule [.act i] := by simp [State.supplied, h]
  have he : nextEvent (t.setSchedule [.act i]) = (.act i, t.setSchedule []) := rfl
  rw [hn, fetch, he, hs]
  rfl

/-- It gives what `exec` gives, while no EXCHANGE waits. -/
theorem step_supplied {t u : State} {i : Instr} (h : t.schedule = []) (hx : exec i t = .next u)
    (hu : u.exchanging = false) : step (t.supplied (.act i)) = .next u := by
  simp [step, fetch_supplied h, hx, settle, continueExchange, hu]

/-- Polls and ticks in turn. -/
def pollAndTick (n : Nat) : Event := if n % 2 = 0 then .act .txnPoll else .act (.tick 1)

/-- Nothing is scheduled and no EXCHANGE waits, and the next step of the order `pollAndTick` keeps it so. -/
theorem pollAndTick_step (n : Nat) (t : State) (h : t.schedule = [] ∧ t.exchanging = false) :
    ∃ u, step (t.supplied (pollAndTick n)) = .next u ∧ (u.schedule = [] ∧ u.exchanging = false) ∧
      u.env.now = t.env.now + n % 2 := by
  rcases Nat.mod_two_eq_zero_or_one n with hn | hn <;> simp only [pollAndTick, hn, if_true, Nat.one_ne_zero, if_false]
  · rcases execTxnPoll_cases t with hc | hc | hc | hc
    · exact ⟨_, step_supplied h.1 hc.2 h.2, h, rfl⟩
    · exact ⟨_, step_supplied h.1 hc.2.2 h.2, h, rfl⟩
    · exact ⟨_, step_supplied h.1 hc.2.2.2 h.2, h, rfl⟩
    · exact ⟨_, step_supplied h.1 hc.2.2.2 h.2, h, rfl⟩
  · exact ⟨_, step_supplied h.1 rfl h.2, h, rfl⟩

theorem witness_PendingTransactionEndsInTime :
    (∃ t, exec .txnPoll (waiting 100 100 State.reset) = .next t ∧ t.eng.txnState = .timedOut) ∧
      (waiting 100 100 State.reset).eng.txnState = .reading ∧
      (waiting 100 0 State.reset).eng.busy = true ∧
      (waiting 100 0 State.reset).eng.t0 ≤ (waiting 100 0 State.reset).env.now ∧
      (waiting 100 0 State.reset).eng.timeoutLatched ≤ 100 ∧
      Follows pollAndTick (runOf pollAndTick (waiting 5 0 State.reset)) ∧
      PollsAreTaken pollAndTick (runOf pollAndTick (waiting 5 0 State.reset)) ∧
      TimeIsUnbounded (runOf pollAndTick (waiting 5 0 State.reset)) ∧
      (runOf pollAndTick (waiting 5 0 State.reset) 0).eng.busy = true := by
  obtain ⟨hf, hp⟩ := runOf_follows (order := pollAndTick) (s := waiting 5 0 State.reset)
    (fun t => t.schedule = [] ∧ t.exchanging = false) ⟨rfl, rfl⟩
    fun n t h => (pollAndTick_step n t h).imp fun u hu => ⟨hu.1, hu.2.1⟩
  refine ⟨⟨_, rfl, rfl⟩, rfl, rfl, by decide, by decide, hf, ?_, ?_, rfl⟩
  · intro n
    refine ⟨2 * n, by omega, fun _ => ⟨runOf pollAndTick (waiting 5 0 State.reset) (2 * n), ?_⟩⟩
    simpa [pollAndTick] using fetch_supplied (hp (2 * n)).1
  · have hstep : ∀ n, (runOf pollAndTick (waiting 5 0 State.reset) (n + 1)).env.now =
        (runOf pollAndTick (waiting 5 0 State.reset) n).env.now + n % 2 := by
      intro n
      obtain ⟨u, hu, -, hn⟩ := pollAndTick_step n _ (hp n)
      simp [runOf, hu, nextOf, hn]
    have hk : ∀ k, k ≤ (runOf pollAndTick (waiting 5 0 State.reset) (2 * k)).env.now := by
      intro k
      induction k with
      | zero => exact Nat.zero_le _
      | succ k ih =>
        have h1 := hstep (2 * k)
        have h2 := hstep (2 * k + 1)
        have h3 : (2 * k + 1) % 2 = 1 := by omega
        simp only [show 2 * (k + 1) = 2 * k + 1 + 1 by omega, h2, h1, h3]
        omega
    exact fun bound => ⟨2 * bound, hk bound⟩

theorem witness_StaleBufferIsReturned :
    (reading [] [0x01] []).eng.rxFault = false ∧ (reading [] [0x01] []).eng.busy = false ∧
      (reading [] [0x01] []).eng.latest ≠ [] := by decide +kernel

theorem witness_ReaderAppendsPendingBytes :
    (reading [] [] [0x01]).eng.started = true ∧ (reading [] [] [0x01]).eng.rxFault = false ∧
      (reading [] [] [0x01]).env.rxPending ≠ [] ∧ 1 ≤ (reading [] [] [0x01]).cfg.rxChunkMax ∧
      1 ≤ (reading [] [] [0x01]).env.rxPending.length ∧
      ∀ m, (reading [] [] [0x01]).cfg.rxBufMax = some m → (reading [] [] [0x01]).eng.acc.length + 1 ≤ m := by
  refine ⟨rfl, rfl, by decide, by decide, by decide, ?_⟩
  intro m h; cases h

/-- A quiet read again and again. -/
def quietReads (_ : Nat) : Event := .act (.rdStep 1)

theorem witness_ReaderPublishesAtSilence :
    (reading [0x01] [] []).eng.started = true ∧ (reading [0x01] [] []).eng.rxFault = false ∧
      (reading [0x01] [] []).env.rxPending = [] ∧ (reading [0x01] [] []).eng.acc ≠ [] ∧
      (reading [] [] []).eng.acc = [] ∧
      Follows quietReads (runOf quietReads (reading [0x01] [] [])) ∧
      QuietReadsAreTaken quietReads (runOf quietReads (reading [0x01] [] [])) ∧
      readerEnabled (runOf quietReads (reading [0x01] [] []) 0) = true ∧
      (runOf quietReads (reading [0x01] [] []) 0).eng.acc ≠ [] := by
  obtain ⟨hf, hp⟩ := runOf_follows (order := quietReads) (s := reading [0x01] [] [])
    (fun t => t.schedule = [] ∧ t.exchanging = false ∧ t.env.rxPending = []) ⟨rfl, rfl, rfl⟩ (by
      intro n t ⟨h1, h2, h3⟩
      rcases execRdStep_cases 1 t with h | h | h | h | h
      · exact ⟨_, step_supplied h1 h.2 h2, h1, h2, h3⟩
      · exact ⟨_, step_supplied h1 h.2.2.2 h2, h1, h2, h3⟩
      · exact ⟨_, step_supplied h1 h.2.2.2 h2, h1, h2, h3⟩
      · exact absurd h3 h.2.1
      · exact absurd h3 h.2.1)
  exact ⟨rfl, rfl, rfl, by decide, rfl, hf,
    fun n => ⟨n, Nat.le_refl n, fun _ => ⟨(hp n).2.2, 1, _, fetch_supplied (hp n).1⟩⟩, rfl, by decide⟩

/-- V-T12, with a bound of 0; and counts of 0 and of 1000, past both ends of the range, that overflow too. -/
theorem witness_ReaderOverflowSetsFault :
    (configured { initialConfig with rxBufMax := some 0 } (reading [] [] [0x01])).eng.started = true ∧
      (configured { initialConfig with rxBufMax := some 0 } (reading [] [] [0x01])).eng.rxFault = false ∧
      (reading [] [] [0x01]).env.rxPending ≠ [] ∧ 1 ≤ initialConfig.rxChunkMax ∧
      (configured { initialConfig with rxBufMax := some 0 } (reading [] [] [0x01])).cfg.rxBufMax = some 0 ∧
      1 ≤ (reading [] [] [0x01]).env.rxPending.length ∧ 0 < (reading [] [] [0x01]).eng.acc.length + 1 ∧
      (reading [] [] [0x01]).env.rxPending.length ≤ 1000 ∧
      min (reading [] [] [0x01]).env.rxPending.length initialConfig.rxChunkMax = 1 := by
  decide +kernel

theorem witness_DisabledStepsChangeNothing :
    State.reset.eng.started = false ∧
      (State.reset.setEng { State.reset.eng with rxFault := true }).eng.rxFault = true ∧
      State.reset.eng.busy = false := by decide +kernel

theorem witness_OpcodeConstantsSelectFrameByte :
    (givenFrame 0 []).args.inBuf.length ≤ payloadBound (givenFrame 0 []).cfg := by decide +kernel

theorem witness_ExchangeSendsCommandFrame :
    (givenFrame 0x80 []).args.inBuf.length ≤ payloadBound (givenFrame 0x80 []).cfg ∧
      (givenFrame 0x80 []).eng.rxFault = false ∧ (givenFrame 0x80 []).eng.busy = false := by decide +kernel

theorem witness_ExchangeFailsAsItsParts :
    payloadBound (configured { initialConfig with maxPayload := 1 } (givenFrame 0 [0x00, 0x00])).cfg <
        (givenFrame 0 [0x00, 0x00]).args.inBuf.length ∧
      (State.reset.args.inBuf.length ≤ payloadBound State.reset.cfg ∧
        (State.reset.setEng { State.reset.eng with rxFault := true }).eng.rxFault = true) ∧
      (waiting 100 0 State.reset).eng.rxFault = false ∧ (waiting 100 0 State.reset).eng.busy = true := by decide +kernel

theorem witness_ExchangeDecodesReceivedBuffer :
    (answered [.act .txnPoll]).schedule = .act .txnPoll :: [] ∧ (answered []).exchanging = true ∧
      (answered []).eng.busy = true ∧ (answered []).eng.latest ≠ [] ∧
      ((waiting 100 100 State.reset).setExchanging true).eng.latest = [] ∧
      ((waiting 100 100 State.reset).setExchanging true).eng.timeoutLatched ≤
        ((waiting 100 100 State.reset).setExchanging true).env.now -
          ((waiting 100 100 State.reset).setExchanging true).eng.t0 ∧
      ((waiting 100 99 State.reset).setExchanging true).env.now -
          ((waiting 100 99 State.reset).setExchanging true).eng.t0 <
        ((waiting 100 99 State.reset).setExchanging true).eng.timeoutLatched ∧
      (∃ t, exec (.tick 1) (State.reset.setToDecode [rspLogin]) = .next t) ∧
      ((scheduled [.resume]).setToDecode [rspLogin]).schedule = .resume :: [] ∧
      ((scheduled [.resume]).setToDecode [rspLogin]).toDecode = rspLogin :: [] ∧
      ((scheduled [.resume]).setToDecode [rspLogin]).exchanging = false := by
  refine ⟨rfl, rfl, rfl, by decide, rfl, by decide, by decide, ⟨_, rfl⟩, rfl, rfl, rfl⟩

/-- The scenario's set has the layout of its meter type. -/
theorem scenario_layout (meter : MeterType) : SetsKeepLayout (scenario meter) := by
  intro id
  cases id <;> cases meter <;> decide +kernel

/-- The scenario of R240 under both meter types, and V-S5 for the failing field. -/
theorem witness_TestConfigSerializesInOrder :
    (∀ meter, SetsKeepLayout (scenario meter)) ∧
      (∀ meter, (scenario meter).testConfig.map Reg.value =
        [0, 0, 7, 0x406B800000000000, 0x4014000000000000, 0x3FF0000000000000, 1, 0x4049000000000000, 0, 5]) ∧
      (∀ meter, ∀ r ∈ (scenario meter).testConfig, ¬RegOverflows (scenario meter) r) ∧
      SetsKeepLayout (State.reset.setRegSet .testConfig (assignValues (zeroSet .unsigned .testConfig) [256])) ∧
      ⟨.uint 1, 256⟩ ∈
        (State.reset.setRegSet .testConfig (assignValues (zeroSet .unsigned .testConfig) [256])).testConfig ∧
      RegOverflows State.reset ⟨.uint 1, 256⟩ := by
  refine ⟨scenario_layout, fun m => by cases m <;> decide +kernel, ?_, ?_, by decide +kernel, ?_⟩
  · intro m r hr
    unfold RegOverflows UintOverflows FloatOverflows
    cases m <;> simp only [scenario, configured, State.setRegSet, assignValues, zeroSet, layout, List.map_cons,
      List.map_nil, List.mem_cons, List.not_mem_nil, or_false] at hr <;>
      rcases hr with rfl | rfl | rfl | rfl | rfl | rfl | rfl | rfl | rfl | rfl <;> decide +kernel
  · intro id
    cases id <;> decide +kernel
  · unfold RegOverflows UintOverflows; decide +kernel

/-- V-S2 and V-S4: one byte too few or too many; and the 26 bytes of V-S3. -/
theorem witness_DeserializeRefusesWrongLength :
    SetsKeepLayout (given 0 0 (List.replicate 79 0x00)) ∧
      (given 0 0 (List.replicate 79 0x00)).args.inBuf.length ≠ 80 ∧
      (given 0 0 (List.replicate 14 0x00)).args.inBuf.length ≠ 13 ∧
      (given 0 0 (List.replicate 27 0x00)).args.inBuf.length ≠ 26 ∧
      [0x00, 0x00, 0x07, 0x00, 0x00, 0x5C, 0x43, 0x00, 0x00, 0xA0, 0x40, 0x00, 0x00, 0x80, 0x3F, 0x01, 0x00, 0x00,
          0x48, 0x42, 0x00, 0x00, 0x00, 0x00, 0x05, 0x00] =
        ([0x00, 0x00, 0x07] ++ leBytes 4 (0x435C0000 : BitVec 32).toNat ++
          leBytes 4 (0x40A00000 : BitVec 32).toNat ++ leBytes 4 (0x3F800000 : BitVec 32).toNat ++ [0x01] ++
          leBytes 4 (0x42480000 : BitVec 32).toNat ++ leBytes 4 (0 : BitVec 32).toNat ++
          leBytes 2 (5 : BitVec 16).toNat : Bytes) :=
  ⟨sets_of_reset rfl rfl rfl rfl, by decide, by decide, by decide, by decide +kernel⟩

/-- V-S1. -/
theorem witness_SamplingDeserializesAndSerializesBack :
    SetsKeepLayout (given 0 0 (List.replicate 80 0x00)) ∧ (List.replicate 20 (0 : BitVec 32)).length = 20 ∧
      (∀ p ∈ List.replicate 20 (0 : BitVec 32), isNan binary32 p.toNat = false) ∧
      (given 0 0 (List.replicate 80 0x00)).args.inBuf =
        (List.replicate 20 (0 : BitVec 32)).flatMap (fun p => leBytes 4 p.toNat) :=
  ⟨sets_of_reset rfl rfl rfl rfl, by decide,
    fun p h => by rw [List.eq_of_mem_replicate h]; decide +kernel, by decide +kernel⟩

/-- V-S4, both ways. -/
theorem witness_ErrorSetDeserializes :
    SetsKeepLayout
        (given 0 0 [0x01, 0x00, 0x00, 0x80, 0x3E, 0x00, 0x00, 0x00, 0xBF, 0x00, 0x00, 0xC0, 0x3F]) ∧
      (given 0 0 [0x01, 0x00, 0x00, 0x80, 0x3E, 0x00, 0x00, 0x00, 0xBF, 0x00, 0x00, 0xC0, 0x3F]).args.inBuf =
        [0x01] ++ leBytes 4 (0x3E800000 : BitVec 32).toNat ++ leBytes 4 (0xBF000000 : BitVec 32).toNat ++
          leBytes 4 (0x3FC00000 : BitVec 32).toNat ∧
      State.reset.errorSet.map Reg.value = [0, 0, 0, 0] ∧ ∀ r ∈ State.reset.errorSet, ¬RegOverflows State.reset r := by
  refine ⟨sets_of_reset rfl rfl rfl rfl, by decide +kernel, rfl, ?_⟩
  intro r hr
  unfold RegOverflows UintOverflows FloatOverflows
  simp only [State.reset, zeroSet, layout, List.map_cons, List.map_nil, List.mem_cons, List.not_mem_nil,
    or_false] at hr
  rcases hr with rfl | rfl | rfl | rfl <;> decide +kernel

end Sys2Proof.Tests
end

/-! PROOF. What an instruction can do to the parts the invariant speaks of (the engine, the time base, the configuration
and the layouts of the register sets), said once; and from it the two statements about every step: the invariant is
kept, and the configuration never changes. -/

namespace Sys2Proof.Machine

/-! ## What most operations leave alone -/

/-- Nothing the invariant speaks of changed: the engine, the environment, the configuration, the wait of an EXCHANGE
and the declared types of the registers. Ports, working registers and register values may have. -/
structure SameBlock (s t : State) : Prop where
  eng : t.eng = s.eng
  env : t.env = s.env
  cfg : t.cfg = s.cfg
  exchanging : t.exchanging = s.exchanging
  types : ∀ id, (t.regSet id).map Reg.ty = (s.regSet id).map Reg.ty

namespace SameBlock

variable {s t u : State}

theorem refl (s : State) : SameBlock s s := ⟨rfl, rfl, rfl, rfl, fun _ => rfl⟩

theorem trans (h : SameBlock s t) (h' : SameBlock t u) : SameBlock s u where
  eng := h'.eng.trans h.eng
  env := h'.env.trans h.env
  cfg := h'.cfg.trans h.cfg
  exchanging := h'.exchanging.trans h.exchanging
  types id := (h'.types id).trans (h.types id)

/-- The invariant speaks of nothing else. -/
theorem inv (h : SameBlock s t) (hs : s.Inv) : t.Inv where
  guardMatches := by unfold GuardMatches; rw [h.eng]; exact hs.guardMatches
  latchedInPast := by unfold LatchedInPast; rw [h.eng, h.env]; exact hs.latchedInPast
  buffersBounded := by unfold BuffersBounded; rw [h.eng, h.cfg]; exact hs.buffersBounded
  setsKeepLayout id := by rw [h.types, h.cfg]; exact hs.setsKeepLayout id
  exchangePending := by unfold ExchangePending; rw [h.eng, h.exchanging]; exact hs.exchangePending
  configInRange := by unfold ConfigInRange; rw [h.cfg]; exact hs.configInRange

end SameBlock

section Frames

variable (s : State)

theorem sameBlock_setOpSel (c : BitVec 4) : SameBlock s (s.setOpSel c) := by constructor <;> simp

theorem sameBlock_setArgs (a : Operands) : SameBlock s (s.setArgs a) := by constructor <;> simp

theorem sameBlock_setInBuf (b : Bytes) : SameBlock s (s.setInBuf b) := by constructor <;> simp

theorem sameBlock_setArgOpcode (o : BitVec 16) : SameBlock s (s.setArgOpcode o) := by constructor <;> simp

theorem sameBlock_setCrc (h l : Byte) : SameBlock s (s.setCrc h l) := by constructor <;> simp

theorem sameBlock_setToDecode (bs : List Bytes) : SameBlock s (s.setToDecode bs) := by constructor <;> simp

theorem sameBlock_setSchedule (es : List Event) : SameBlock s (s.setSchedule es) := by constructor <;> simp

theorem sameBlock_draw : SameBlock s s.draw := by constructor <;> simp

theorem sameBlock_complete (st : Status) (w : Written) : SameBlock s (s.complete st w) := by constructor <;> simp

theorem sameBlock_raise (st : Status) : SameBlock s (s.raise st) := by constructor <;> simp

theorem sameBlock_report (st : Status) : SameBlock s (s.report st) := by constructor <;> simp

theorem sameBlock_completeBytes (r : Except SubCause Bytes) : SameBlock s (s.completeBytes r) := by
  cases r with
  | ok b => exact sameBlock_complete s _ _
  | error c => exact sameBlock_raise s _

theorem sameBlock_completeValue (r : Except SubCause (BitVec 64)) : SameBlock s (s.completeValue r) := by
  cases r with
  | ok v => exact sameBlock_complete s _ _
  | error c => exact sameBlock_raise s _

/-- Writing a set in its own layout keeps every set's layout. -/
theorem sameBlock_setRegSet {id : SetId} {r : RegSet} (h : r.map Reg.ty = (s.regSet id).map Reg.ty) :
    SameBlock s (s.setRegSet id r) where
  eng := setRegSet_eng s id r
  env := setRegSet_env s id r
  cfg := setRegSet_cfg s id r
  exchanging := setRegSet_exchanging s id r
  types id' := by
    by_cases hid : id' = id
    · subst hid
      rw [setRegSet_regSet_same, h]
    · rw [setRegSet_regSet_other s id id' r hid]

theorem sameBlock_frameEnc : SameBlock s s.frameEnc := by
  obtain ⟨heng, henv, hcfg, -, hex, -, -, hset⟩ := frameEnc_keeps s
  exact ⟨heng, henv, hcfg, hex, fun id => by rw [hset]⟩

theorem sameBlock_frameDec : SameBlock s s.frameDec := by
  obtain ⟨heng, henv, hcfg, -, hex, -, -, hset⟩ := frameDec_keeps s
  exact ⟨heng, henv, hcfg, hex, fun id => by rw [hset]⟩

theorem sameBlock_execDeserialize {set : SetId} {t : State} (h : execDeserialize set s = .next t) :
    SameBlock s t := by
  unfold execDeserialize at h
  split at h
  · cases h
    exact sameBlock_raise s _
  · split at h
    next regs hregs =>
      cases h
      exact (sameBlock_setRegSet s (deserializeFrom_types hregs)).trans (sameBlock_complete _ _ _)
    next =>
      cases h
      exact sameBlock_raise s _

/-- Taking up an event changes nothing of the block. -/
theorem sameBlock_nextEvent : SameBlock s (nextEvent s).2 := by
  rcases nextEvent_cases s with ⟨-, hn⟩ | ⟨e, rest, -, hn⟩ <;> rw [hn]
  · exact sameBlock_draw s
  · exact sameBlock_setSchedule s rest

end Frames

/-- Neither the writes of the host and the boundary nor the start of an instruction change anything the invariant
speaks of. -/
theorem sameBlock_of_fetchEvent {e : Event} {s t : State}
    (h : fetchEvent e s = .host t ∨ ∃ i, fetchEvent e s = .run i t) : SameBlock s t := by
  rcases fetchEvent_cases e s with ⟨a, -, hf⟩ | ⟨set, vs, -, hf⟩ | ⟨c, -, hf⟩ | ⟨b, i, -, -, hf⟩ | ⟨b, -, -, hf⟩ |
    ⟨i, -, hf⟩ | ⟨-, -, hf⟩ | ⟨b, more, -, -, hf⟩ <;> rw [hf] at h <;> obtain h | ⟨_, h⟩ := h <;> cases h
  · exact sameBlock_setArgs s a
  · exact sameBlock_setRegSet s (assignValues_types _ vs)
  · exact sameBlock_setOpSel s c
  · exact SameBlock.refl s
  · exact SameBlock.refl s
  · exact SameBlock.refl s
  · exact ((sameBlock_setToDecode s more).trans (sameBlock_setInBuf _ b)).trans (sameBlock_setOpSel _ 0x8)

theorem sameBlock_of_fetch {s t : State} (h : fetch s = .host t ∨ ∃ i, fetch s = .run i t) : SameBlock s t :=
  (sameBlock_nextEvent s).trans (sameBlock_of_fetchEvent h)

/-! ## What an instruction can do to the engine -/

/-- The instructions that can have a transaction accepted (R102, R200). -/
def SendsCommand (i : Instr) : Prop := i = .transaction ∨ i = .exchange ∨ i = .frameCmd

/-- The engine that instruction `i` can leave behind in the state `s`, with the guard of each move (R195 to R204,
R291). -/
inductive EngineMove (i : Instr) (s : State) : Engine → Prop where
  | stays : EngineMove i s s.eng
  | starts (hi : i = .start) : EngineMove i s { s.eng with started := true }
  | accepts (hi : SendsCommand i) (hfault : s.eng.rxFault = false) (hbusy : s.eng.busy = false) :
      EngineMove i s
        { s.eng with busy := true, t0 := s.env.now, timeoutLatched := s.args.timeout, txnState := .reading }
  | takes (hi : i = .txnPoll) (hbusy : s.eng.busy = true) (hdata : s.eng.latest ≠ []) :
      EngineMove i s { s.eng with latest := [], busy := false, txnState := .dataReady }
  | timesOut (hi : i = .txnPoll) (hbusy : s.eng.busy = true) (hdata : s.eng.latest = [])
      (hdue : s.eng.timeoutLatched ≤ s.env.now - s.eng.t0) :
      EngineMove i s { s.eng with busy := false, txnState := .timedOut }
  | publishes (k : Nat) (hi : i = .rdStep k) (henabled : readerEnabled s = true) (hacc : s.eng.acc ≠ []) :
      EngineMove i s { s.eng with latest := s.eng.acc, acc := [] }
  | appends (k : Nat) (r : Bytes) (hi : i = .rdStep k) (henabled : readerEnabled s = true)
      (hfits : overflows s r = false) : EngineMove i s { s.eng with acc := s.eng.acc ++ r }
  | faults (k : Nat) (r : Bytes) (hi : i = .rdStep k) (henabled : readerEnabled s = true)
      (hover : overflows s r = true) :
      EngineMove i s { s.eng with rxFault := true, acc := Config.freeAcc s.draws }
  | resets (hi : i = .reset) : EngineMove i s (resetEngine s.draws)

/-- What every instruction keeps, and what it can do to the engine. -/
structure Moves (i : Instr) (s t : State) : Prop where
  cfg : t.cfg = s.cfg
  now : s.env.now ≤ t.env.now
  types : ∀ id, (t.regSet id).map Reg.ty = (s.regSet id).map Reg.ty
  eng : EngineMove i s t.eng

theorem SameBlock.moves {i : Instr} {s t : State} (h : SameBlock s t) : Moves i s t where
  cfg := h.cfg
  now := by rw [h.env]
  types := h.types
  eng := by rw [h.eng]; exact .stays

/-- A move of the engine, with streams as they may be and the time base not set back. -/
theorem moves_setEnv_setEng {i : Instr} {s : State} {env : Environment} {e : Engine} (hnow : s.env.now ≤ env.now)
    (h : EngineMove i s e) : Moves i s ((s.setEnv env).setEng e) where
  cfg := rfl
  now := hnow
  types id := by rw [setEng_regSet, setEnv_regSet]
  eng := h

theorem moves_setEng {i : Instr} {s : State} {e : Engine} (h : EngineMove i s e) : Moves i s (s.setEng e) :=
  moves_setEnv_setEng (env := s.env) (le_refl _) h

theorem moves_setEnv {i : Instr} {s : State} {env : Environment} (hnow : s.env.now ≤ env.now) :
    Moves i s (s.setEnv env) :=
  moves_setEnv_setEng (e := s.eng) hnow .stays

/-- What follows a move and leaves the block alone is part of it. -/
theorem Moves.then {i : Instr} {s t u : State} (h : Moves i s t) (h' : SameBlock t u) : Moves i s u where
  cfg := h'.cfg.trans h.cfg
  now := by rw [h'.env]; exact h.now
  types id := (h'.types id).trans (h.types id)
  eng := by rw [h'.eng]; exact h.eng

/-- Moves do not speak of the wait of an EXCHANGE. -/
theorem Moves.setExchanging {i : Instr} {s t : State} (h : Moves i s t) (b : Bool) :
    Moves i s (t.setExchanging b) where
  cfg := h.cfg
  now := h.now
  types id := by rw [setExchanging_regSet]; exact h.types id
  eng := h.eng

/-- TRANSACTION, requested in a block and with a timeout no different from those of `s` (R200). -/
theorem transaction_moves {i : Instr} {s s' : State} (hi : SendsCommand i) (h : SameBlock s s')
    (htimeout : s'.args.timeout = s.args.timeout) : Moves i s s'.transaction := by
  rcases transaction_cases s' with ⟨-, ht⟩ | ⟨-, -, ht⟩ | ⟨hfault, hbusy, ht⟩ <;> rw [ht]
  · exact (h.trans (sameBlock_raise s' _)).moves
  · exact (h.trans (sameBlock_raise s' _)).moves
  · rw [h.eng] at hfault hbusy
    have heng : s'.accept.eng = { s.eng with
        busy := true, t0 := s.env.now, timeoutLatched := s.args.timeout, txnState := .reading } := by
      simp only [State.accept, setEng_eng, h.eng, h.env, htimeout]
    exact
      { cfg := h.cfg
        now := by simp [State.accept, h.env]
        types := fun id => by simp [State.accept, h.types]
        eng := by rw [heng]; exact .accepts hi hfault hbusy }

/-- A command is refused by FRAME_ENC, or it is a TRANSACTION of the frame (R102). -/
theorem sendCommand_moves {i : Instr} (hi : SendsCommand i) (s : State) : Moves i s s.sendCommand := by
  obtain ⟨-, -, -, hargs, -⟩ := frameEnc_keeps s
  rcases sendCommand_cases s with ⟨-, hc⟩ | ⟨-, hc⟩ <;> rw [hc]
  · exact (sameBlock_raise s _).moves
  · refine transaction_moves hi ((sameBlock_frameEnc s).trans (sameBlock_setInBuf _ _)) ?_
    simp [hargs]

theorem execExchange_moves {s t : State} (h : execExchange s = .next t) : Moves .exchange s t := by
  have hsend : Moves .exchange s s.sendCommand := sendCommand_moves (.inr (.inl rfl)) s
  unfold execExchange at h
  cases h
  split
  · exact hsend.setExchanging true
  · exact hsend

theorem execTxnPoll_moves {s t : State} (h : execTxnPoll s = .next t) : Moves .txnPoll s t := by
  rcases execTxnPoll_cases s with ⟨-, hp⟩ | ⟨hbusy, hdata, hp⟩ | ⟨hbusy, hdata, hdue, hp⟩ | ⟨-, -, -, hp⟩ <;>
    rw [hp] at h <;> cases h
  · exact (SameBlock.refl s).moves
  · exact (moves_setEng (.takes rfl hbusy hdata)).then (sameBlock_complete _ _ _)
  · exact (moves_setEng (.timesOut rfl hbusy hdata hdue)).then (sameBlock_complete _ _ _)
  · exact (SameBlock.refl s).moves

theorem execRdStep_moves {k : Nat} {s t : State} (h : execRdStep k s = .next t) : Moves (.rdStep k) s t := by
  rcases execRdStep_cases k s with ⟨-, hr⟩ | ⟨-, -, -, hr⟩ | ⟨henabled, -, hacc, hr⟩ | ⟨henabled, -, hfits, hr⟩ |
    ⟨henabled, -, hover, hr⟩ <;> rw [hr] at h <;> cases h
  · exact (SameBlock.refl s).moves
  · exact (SameBlock.refl s).moves
  · exact moves_setEng (.publishes k rfl henabled hacc)
  · exact moves_setEnv_setEng (le_refl _) (.appends k _ rfl henabled hfits)
  · refine Moves.then ?_ (sameBlock_draw _)
    exact moves_setEnv_setEng (le_refl _) (.faults k _ rfl henabled hover)

/-- RESET puts a fresh engine in place and empties `tx_stream`; the time base goes on (R291). -/
theorem execReset_moves {s t : State} (h : execReset s = .next t) : Moves .reset s t := by
  cases h
  exact
    { cfg := rfl
      now := le_refl _
      types := fun id => by simp
      eng := .resets rfl }

/-- Every instruction keeps the configuration and the layouts, sets no time back, and moves the engine as its kind
may. -/
theorem exec_moves {i : Instr} {s t : State} (h : exec i s = .next t) : Moves i s t := by
  cases i with
  | encUint | encFloat | encBool | serialize set =>
    cases h
    exact (sameBlock_completeBytes s _).moves
  | decUint | decFloat | decBool =>
    cases h
    exact (sameBlock_completeValue s _).moves
  | crc16 =>
    cases h
    exact ((sameBlock_setCrc s _ _).trans (sameBlock_complete _ _ _)).moves
  | frameEnc =>
    cases h
    exact (sameBlock_frameEnc s).moves
  | frameDec =>
    cases h
    exact (sameBlock_frameDec s).moves
  | deserialize set => exact (sameBlock_execDeserialize s h).moves
  | start =>
    cases h
    exact (moves_setEng (.starts rfl)).then (sameBlock_complete _ _ _)
  | transaction =>
    cases h
    exact transaction_moves (.inl rfl) (SameBlock.refl s) rfl
  | exchange => exact execExchange_moves h
  | frameCmd =>
    cases h
    exact sendCommand_moves (.inr (.inr rfl)) s
  | txnPoll => exact execTxnPoll_moves h
  | rdStep k => exact execRdStep_moves h
  | reset => exact execReset_moves h
  | tick d =>
    cases h
    exact moves_setEnv (Nat.le_add_right _ d)
  | envRx e =>
    cases h
    exact moves_setEnv (le_refl _)
  | frameRsp opLow opHigh err payload =>
    cases h
    exact moves_setEnv (le_refl _)
  | reservedB | reservedC | reservedD | reservedE | reservedF =>
    cases h
    exact (sameBlock_raise s _).moves
  | opcLogin | opcLogout | opcTestCommand | opcOnlineAdjust | opcReadbackSampling | opcStopTest | opcReadbackError =>
    cases h
    exact (sameBlock_setArgOpcode s _).moves
  | statusOk | statusFrameEmpty | statusFrameInvalidMarkers | statusFrameLengthMismatch | statusFrameCrcMismatch
  | statusEncodingError c | statusRegisterLengthMismatch | statusRangeError | statusTransactionTimeout | statusBusy
  | statusRxOverflow | statusIllegalOperation =>
    cases h
    exact (sameBlock_report s _).moves

/-- Around an instruction a step only ends the wait of an EXCHANGE and keeps a buffer for it (R102). -/
theorem Moves.settled {i : Instr} {s t : State} (h : Moves i s t) : Moves i s (continueExchange t) := by
  rcases continueExchange_cases t with ⟨-, -, -, hc⟩ | ⟨-, -, -, hc⟩ | ⟨-, hc⟩ <;> rw [hc]
  · exact (h.setExchanging false).then (sameBlock_setToDecode _ _)
  · exact (h.setExchanging false).then (sameBlock_setToDecode _ _)
  · exact h

/-- A step is a write that leaves the block alone, or an instruction's move from a block no different from `s`. -/
theorem step_moves {s t : State} (h : step s = .next t) :
    SameBlock s t ∨ ∃ i u v, SameBlock s u ∧ Moves i u v ∧ t = continueExchange v := by
  rcases step_next h with hhost | ⟨i, u, v, hrun, hexec, ht⟩
  · exact .inl (sameBlock_of_fetch (.inl hhost))
  · exact .inr ⟨i, u, v, sameBlock_of_fetch (.inr ⟨i, hrun⟩), exec_moves hexec, ht⟩

/-! ## The invariant -/

theorem readerEnabled_rxFault {s : State} (h : readerEnabled s = true) : s.eng.rxFault = false := by
  simp only [readerEnabled, Bool.and_eq_true, Bool.not_eq_true'] at h
  exact h.2

/-- An append that does not overflow stays within `RX_BUF_MAX` (R199). -/
theorem length_le_of_fits {s : State} {r : Bytes} {m : Nat} (hm : s.cfg.rxBufMax = some m)
    (hfits : overflows s r = false) : (s.eng.acc ++ r).length ≤ m := by
  simp only [overflows, hm, decide_eq_false_iff_not, not_lt] at hfits
  rw [List.length_append]
  exact hfits

namespace Moves

variable {i : Instr} {s t : State}

/-- The guard is set exactly on the way into Reading and cleared on every way out (R31, R205). -/
theorem guardMatches (h : Moves i s t) (hs : GuardMatches s) : GuardMatches t := by
  unfold GuardMatches at *
  generalize t.eng = e, h.eng = move
  cases move with
  | stays | starts | publishes | appends | faults => exact hs
  | accepts | takes | timesOut | resets => simp [resetEngine]

/-- An accepted transaction latches the present, and time is not set back (R32, R35, R200). -/
theorem latchedInPast (h : Moves i s t) (hs : LatchedInPast s) : LatchedInPast t := by
  unfold LatchedInPast at *
  have hnow := h.now
  generalize t.eng = e, h.eng = move
  cases move with
  | stays | starts | publishes | appends | faults => exact fun hbusy => (hs hbusy).trans hnow
  | accepts => exact fun _ => hnow
  | takes | timesOut | resets => exact fun hbusy => nomatch hbusy

/-- Only an append that fits lengthens `acc` without setting `rx_fault`, and `latest` gets nothing but an `acc` of an
enabled reader (R28, R198, R199). -/
theorem buffersBounded (h : Moves i s t) (hs : BuffersBounded s) : BuffersBounded t := by
  intro m hm
  rw [h.cfg] at hm
  obtain ⟨hlatest, hacc⟩ := hs m hm
  generalize t.eng = e, h.eng = move
  cases move with
  | stays | starts | accepts | timesOut => exact ⟨hlatest, hacc⟩
  | takes => exact ⟨Nat.zero_le m, hacc⟩
  | publishes k _ henabled _ => exact ⟨hacc (readerEnabled_rxFault henabled), fun _ => Nat.zero_le m⟩
  | appends k r _ _ hfits => exact ⟨hlatest, fun _ => length_le_of_fits hm hfits⟩
  | faults => exact ⟨hlatest, fun hfault => nomatch hfault⟩
  | resets => exact ⟨Nat.zero_le m, fun _ => Nat.zero_le m⟩

theorem setsKeepLayout (h : Moves i s t) (hs : SetsKeepLayout s) : SetsKeepLayout t := by
  intro id
  rw [h.types, h.cfg]
  exact hs id

theorem configInRange (h : Moves i s t) (hs : ConfigInRange s) : ConfigInRange t := by
  unfold ConfigInRange
  rw [h.cfg]
  exact hs

/-- A move keeps the invariant, but for the wait of an EXCHANGE, of which it says nothing. -/
theorem inv (h : Moves i s t) (hs : s.Inv) (hwait : ExchangePending t) : t.Inv where
  guardMatches := h.guardMatches hs.guardMatches
  latchedInPast := h.latchedInPast hs.latchedInPast
  buffersBounded := h.buffersBounded hs.buffersBounded
  setsKeepLayout := h.setsKeepLayout hs.setsKeepLayout
  exchangePending := hwait
  configInRange := h.configInRange hs.configInRange

end Moves

/-- Whatever the instruction did, after the step an EXCHANGE waits only for a pending transaction (R102). -/
theorem continueExchange_exchangePending (t : State) : ExchangePending (continueExchange t) := by
  intro hwait
  rcases continueExchange_cases t with ⟨-, -, -, hc⟩ | ⟨-, -, -, hc⟩ | ⟨hidle | hbusy, hc⟩ <;> rw [hc] at hwait ⊢
  · simp at hwait
  · simp at hwait
  · rw [hidle] at hwait
    cases hwait
  · exact hbusy

/-- Settles O3: a host's write leaves the block alone; an instruction keeps every conjunct but the wait of an EXCHANGE,
which the step settles after it. -/
theorem everyStepKeepsInvariant : Obligations.EveryStepKeepsInvariant := by
  intro s t hs hstep
  rcases step_moves hstep with hsame | ⟨i, u, v, hsame, hmoves, rfl⟩
  · exact hsame.inv hs
  · exact hmoves.settled.inv (hsame.inv hs) (continueExchange_exchangePending v)

/-- Settles O7: neither the host's writes nor any instruction's moves touch the configuration. -/
theorem noStepChangesConfiguration : Obligations.NoStepChangesConfiguration := by
  intro s t hstep
  rcases step_moves hstep with hsame | ⟨i, u, v, hsame, hmoves, rfl⟩
  · exact hsame.cfg
  · exact hmoves.settled.cfg.trans hsame.cfg

end Sys2Proof.Machine

/-! PROOF. Who may write which part of the state. The moves of the engine are those of `EngineMove`; the moves of the
environment (the port's two streams and the time base) are said once here. From the two follow the owners of every field
(R190, R271), the growth of `tx_stream`, the stickiness of `rx_fault` and the arrows of the transaction state. Then the
codec's results as functions of its operands, and the state after reset. -/

namespace Sys2Proof.Machine

/-! ## Who writes the engine's fields -/

namespace EngineMove

variable {i : Instr} {s : State} {e : Engine}

/-- The accumulation buffer and the sticky fault are the reader's (R28, R40). -/
theorem acc_rxFault_owner (h : EngineMove i s e) :
    (e.acc = s.eng.acc ∧ e.rxFault = s.eng.rxFault) ∨ i = .reset ∨ ∃ k, i = .rdStep k := by
  cases h with
  | stays | starts | accepts | takes | timesOut => exact .inl ⟨rfl, rfl⟩
  | publishes k hi | appends k _ hi | faults k _ hi => exact .inr (.inr ⟨k, hi⟩)
  | resets hi => exact .inr (.inl hi)

/-- The slot is filled by the reader and emptied by the transaction's take (R29). -/
theorem latest_owner (h : EngineMove i s e) :
    e.latest = s.eng.latest ∨ i = .reset ∨ i = .txnPoll ∨ ∃ k, i = .rdStep k := by
  cases h with
  | stays | starts | accepts | timesOut | appends | faults => exact .inl rfl
  | takes hi => exact .inr (.inr (.inl hi))
  | publishes k hi => exact .inr (.inr (.inr ⟨k, hi⟩))
  | resets hi => exact .inr (.inl hi)

theorem started_owner (h : EngineMove i s e) : e.started = s.eng.started ∨ i = .reset ∨ i = .start := by
  cases h with
  | stays | accepts | takes | timesOut | publishes | appends | faults => exact .inl rfl
  | starts hi => exact .inr (.inr hi)
  | resets hi => exact .inr (.inl hi)

/-- The guard and the transaction state are the caller's (R30, R31). -/
theorem guard_owner (h : EngineMove i s e) :
    (e.busy = s.eng.busy ∧ e.txnState = s.eng.txnState) ∨ SendsCommand i ∨ i = .txnPoll ∨ i = .reset := by
  cases h with
  | stays | starts | publishes | appends | faults => exact .inl ⟨rfl, rfl⟩
  | accepts hi => exact .inr (.inl hi)
  | takes hi | timesOut hi => exact .inr (.inr (.inl hi))
  | resets hi => exact .inr (.inr (.inr hi))

/-- The latched times are written where a transaction is accepted (R32). -/
theorem latched_owner (h : EngineMove i s e) :
    (e.t0 = s.eng.t0 ∧ e.timeoutLatched = s.eng.timeoutLatched) ∨ SendsCommand i ∨ i = .reset := by
  cases h with
  | stays | starts | takes | timesOut | publishes | appends | faults => exact .inl ⟨rfl, rfl⟩
  | accepts hi => exact .inr (.inl hi)
  | resets hi => exact .inr (.inr hi)

/-- A set fault disables the reader, the one writer of the fault and of the accumulation buffer but RESET (R40, R196,
R199). -/
theorem faulted_stays (h : EngineMove i s e) (hfault : s.eng.rxFault = true) (hi : i ≠ .reset) :
    e.rxFault = true ∧ e.acc = s.eng.acc := by
  cases h with
  | stays | starts | accepts | takes | timesOut => exact ⟨hfault, rfl⟩
  | publishes _ _ henabled | appends _ _ _ henabled | faults _ _ _ henabled =>
    rw [readerEnabled_rxFault henabled] at hfault
    cases hfault
  | resets hreset => exact absurd hreset hi

end EngineMove

/-- Every state but Reading has an arrow into Reading (R205). -/
theorem txnArrow_into_reading {a : TxnState} (h : a ≠ .reading) : txnArrow a .reading = true := by
  cases a with
  | reading => exact absurd rfl h
  | idle | dataReady | timedOut => rfl

/-- While the guard matches the transaction state, a transaction is accepted outside Reading and ends inside it, so the
moves follow R205. -/
theorem EngineMove.follows_arrows {i : Instr} {s : State} {e : Engine} (h : EngineMove i s e) (hs : GuardMatches s)
    (hi : i ≠ .reset) : e.txnState = s.eng.txnState ∨ txnArrow s.eng.txnState e.txnState = true := by
  cases h with
  | stays | starts | publishes | appends | faults => exact .inl rfl
  | accepts _ _ hbusy =>
    have hout : s.eng.txnState ≠ .reading := fun hreading => by simp [hs.mpr hreading] at hbusy
    exact .inr (txnArrow_into_reading hout)
  | takes _ hbusy | timesOut _ hbusy =>
    rw [hs.mp hbusy]
    exact .inr rfl
  | resets hreset => exact absurd hreset hi

/-! ## What an instruction can do to the environment -/

/-- The environment that instruction `i` can leave behind in the state `s`, beside the engine `eng` (R192 to R194,
R291): bytes are written only where a transaction is accepted. -/
inductive EnvironmentMove (i : Instr) (s : State) (eng : Engine) : Environment → Prop where
  | stays : EnvironmentMove i s eng s.env
  | writes (b : Bytes) (hi : SendsCommand i) (hfault : s.eng.rxFault = false) (hbusy : s.eng.busy = false)
      (hguard : eng.busy = true) (hreading : eng.txnState = .reading) :
      EnvironmentMove i s eng { s.env with txStream := s.env.txStream ++ b }
  | arrives (b : Bytes) (hi : (∃ e, i = .envRx e) ∨ ∃ opLow opHigh err p, i = .frameRsp opLow opHigh err p) :
      EnvironmentMove i s eng { s.env with rxPending := s.env.rxPending ++ b }
  | reads (k : Nat) (hi : i = .rdStep k) :
      EnvironmentMove i s eng { s.env with rxPending := (portRead s.cfg s.env.rxPending k).2 }
  | ticks (d : Time) (hi : i = .tick d) : EnvironmentMove i s eng { s.env with now := s.env.now + d }
  | resets (hi : i = .reset) : EnvironmentMove i s eng { s.env with txStream := [] }

theorem SameBlock.environmentMove {i : Instr} {s t : State} (h : SameBlock s t) :
    EnvironmentMove i s t.eng t.env := by
  rw [h.env]
  exact .stays

/-- TRANSACTION, requested in a block no different from `s`, writes exactly when it is accepted (R200). -/
theorem transaction_environmentMove {i : Instr} {s s' : State} (hi : SendsCommand i) (h : SameBlock s s') :
    EnvironmentMove i s s'.transaction.eng s'.transaction.env := by
  rcases transaction_cases s' with ⟨-, ht⟩ | ⟨-, -, ht⟩ | ⟨hfault, hbusy, ht⟩ <;> rw [ht]
  · exact (h.trans (sameBlock_raise s' _)).environmentMove
  · exact (h.trans (sameBlock_raise s' _)).environmentMove
  · rw [h.eng] at hfault hbusy
    have henv : s'.accept.env = { s.env with txStream := s.env.txStream ++ s'.args.inBuf } := by
      simp [State.accept, h.env]
    rw [henv]
    exact .writes _ hi hfault hbusy rfl rfl

theorem sendCommand_environmentMove {i : Instr} (hi : SendsCommand i) (s : State) :
    EnvironmentMove i s s.sendCommand.eng s.sendCommand.env := by
  rcases sendCommand_cases s with ⟨-, hc⟩ | ⟨-, hc⟩ <;> rw [hc]
  · exact .stays
  · exact transaction_environmentMove hi ((sameBlock_frameEnc s).trans (sameBlock_setInBuf _ _))

theorem execExchange_environmentMove {s t : State} (h : execExchange s = .next t) :
    EnvironmentMove .exchange s t.eng t.env := by
  have hsend := sendCommand_environmentMove (i := .exchange) (.inr (.inl rfl)) s
  unfold execExchange at h
  cases h
  split <;> exact hsend

theorem execTxnPoll_environmentMove {s t : State} (h : execTxnPoll s = .next t) :
    EnvironmentMove .txnPoll s t.eng t.env := by
  rcases execTxnPoll_cases s with ⟨-, hp⟩ | ⟨-, -, hp⟩ | ⟨-, -, -, hp⟩ | ⟨-, -, -, hp⟩ <;> rw [hp] at h <;> cases h <;>
    exact .stays

theorem execRdStep_environmentMove {k : Nat} {s t : State} (h : execRdStep k s = .next t) :
    EnvironmentMove (.rdStep k) s t.eng t.env := by
  rcases execRdStep_cases k s with ⟨-, hr⟩ | ⟨-, -, -, hr⟩ | ⟨-, -, -, hr⟩ | ⟨-, -, -, hr⟩ | ⟨-, -, -, hr⟩ <;>
    rw [hr] at h <;> cases h
  · exact .stays
  · exact .stays
  · exact .stays
  · exact .reads k rfl
  · exact .reads k rfl

/-- Every instruction moves the streams and the time base as its kind may. -/
theorem exec_environmentMove {i : Instr} {s t : State} (h : exec i s = .next t) :
    EnvironmentMove i s t.eng t.env := by
  cases i with
  | encUint | encFloat | encBool | serialize set =>
    cases h
    exact (sameBlock_completeBytes s _).environmentMove
  | decUint | decFloat | decBool =>
    cases h
    exact (sameBlock_completeValue s _).environmentMove
  | frameEnc =>
    cases h
    exact (sameBlock_frameEnc s).environmentMove
  | frameDec =>
    cases h
    exact (sameBlock_frameDec s).environmentMove
  | deserialize set => exact (sameBlock_execDeserialize s h).environmentMove
  | transaction =>
    cases h
    exact transaction_environmentMove (.inl rfl) (SameBlock.refl s)
  | exchange => exact execExchange_environmentMove h
  | frameCmd =>
    cases h
    exact sendCommand_environmentMove (.inr (.inr rfl)) s
  | txnPoll => exact execTxnPoll_environmentMove h
  | rdStep k => exact execRdStep_environmentMove h
  | reset =>
    cases h
    exact .resets rfl
  | tick d =>
    cases h
    exact .ticks d rfl
  | envRx e =>
    cases h
    exact .arrives e (.inl ⟨e, rfl⟩)
  | frameRsp opLow opHigh err payload =>
    cases h
    exact .arrives _ (.inr ⟨opLow, opHigh, err, payload, rfl⟩)
  | crc16 | start | reservedB | reservedC | reservedD | reservedE | reservedF
  | opcLogin | opcLogout | opcTestCommand | opcOnlineAdjust | opcReadbackSampling | opcStopTest | opcReadbackError
  | statusOk | statusFrameEmpty | statusFrameInvalidMarkers | statusFrameLengthMismatch | statusFrameCrcMismatch
  | statusEncodingError c | statusRegisterLengthMismatch | statusRangeError | statusTransactionTimeout | statusBusy
  | statusRxOverflow | statusIllegalOperation =>
    cases h
    exact .stays

namespace EnvironmentMove

variable {i : Instr} {s : State} {eng : Engine} {env : Environment}

theorem txStream_owner (h : EnvironmentMove i s eng env) :
    env.txStream = s.env.txStream ∨ SendsCommand i ∨ i = .reset := by
  cases h with
  | stays | arrives | reads | ticks => exact .inl rfl
  | writes _ hi => exact .inr (.inl hi)
  | resets hi => exact .inr (.inr hi)

theorem rxPending_owner (h : EnvironmentMove i s eng env) :
    env.rxPending = s.env.rxPending ∨ (∃ k, i = .rdStep k) ∨ (∃ e, i = .envRx e) ∨
      ∃ opLow opHigh err p, i = .frameRsp opLow opHigh err p := by
  cases h with
  | stays | writes | ticks | resets => exact .inl rfl
  | reads k hi => exact .inr (.inl ⟨k, hi⟩)
  | arrives _ hi => exact .inr (.inr hi)

theorem now_owner (h : EnvironmentMove i s eng env) : env.now = s.env.now ∨ ∃ d, i = .tick d := by
  cases h with
  | stays | writes | arrives | reads | resets => exact .inl rfl
  | ticks d hi => exact .inr ⟨d, hi⟩

/-- What is appended to `tx_stream`, if anything, is the write of a transaction accepted then (R64, R200). -/
theorem txStream_append (h : EnvironmentMove i s eng env) (hi : i ≠ .reset) :
    ∃ b, env.txStream = s.env.txStream ++ b ∧
      (b ≠ [] → s.eng.busy = false ∧ s.eng.rxFault = false ∧ eng.busy = true ∧ eng.txnState = .reading) := by
  cases h with
  | stays | arrives | reads | ticks => exact ⟨[], (List.append_nil _).symm, fun hne => absurd rfl hne⟩
  | writes b _ hfault hbusy hguard hreading => exact ⟨b, rfl, fun _ => ⟨hbusy, hfault, hguard, hreading⟩⟩
  | resets hreset => exact absurd hreset hi

end EnvironmentMove

/-! ## The codec's results -/

/-- What an operation that reports bytes puts on the result ports depends on the draw and on its outcome alone. -/
theorem completeBytes_res_congr {s s' : State} {r r' : Except SubCause Bytes} (hdraws : s.draws = s'.draws)
    (hr : r = r') : (s.completeBytes r).res = (s'.completeBytes r').res := by
  subst hr
  cases r <;> simp [State.completeBytes, hdraws]

/-- What an operation that reports a value puts on the result ports depends on the draw and on its outcome alone. -/
theorem completeValue_res_congr {s s' : State} {r r' : Except SubCause (BitVec 64)} (hdraws : s.draws = s'.draws)
    (hr : r = r') : (s.completeValue r).res = (s'.completeValue r').res := by
  subst hr
  cases r <;> simp [State.completeValue, hdraws]

@[simp] theorem runCrc_draws (s : State) (m : Bytes) : (s.runCrc m).draws = s.draws := rfl

@[simp] theorem checkCrc_draws (s : State) (buf : Bytes) : (s.checkCrc buf).draws = s.draws := by
  rw [checkCrc_eq]

/-- The result ports after FRAME_ENC (R161, R165). -/
theorem frameEnc_res (s : State) :
    s.frameEnc.res =
      if payloadBound s.cfg < s.args.inBuf.length then completed s.draws (.encodingError .valueOutOfRange) {}
      else completed s.draws .ok { outBuf := some (commandFrame s.cfg (lowByte s.args.opcode) s.args.inBuf) } := by
  rcases frameEnc_cases s with ⟨hlong, he⟩ | ⟨hfits, he⟩ <;> rw [he]
  · simp [hlong]
  · simp [Nat.not_lt_of_le hfits]

/-- The result ports after FRAME_DEC (R167, R176). -/
theorem frameDec_res (s : State) :
    s.frameDec.res =
      completed s.draws (frameStatus s.cfg s.args.inBuf)
        (if frameStatus s.cfg s.args.inBuf = .ok then frameFields s.args.inBuf else {}) := by
  rcases frameDec_cases s with ⟨hok, hd⟩ | ⟨hbad, hd⟩ <;> rw [hd]
  · simp [hok]
  · simp [hbad]

/-! ## The state after reset -/

theorem zeroSet_types (m : MeterType) (id : SetId) : (zeroSet m id).map Reg.ty = layout m id := by
  simp [zeroSet, Function.comp_def]

theorem reset_setsKeepLayout : SetsKeepLayout State.reset := by
  intro id
  cases id <;> exact zeroSet_types .unsigned _

/-! ## The obligations -/

/-- Settles O8, by the owners of the reader's fields. -/
theorem onlyReaderWritesReaderState : Obligations.OnlyReaderWritesReaderState := by
  intro i s t h
  have move : EngineMove i s t.eng := (exec_moves h).eng
  exact ⟨fun hne => move.acc_rxFault_owner.resolve_left fun ⟨hacc, _⟩ => hne hacc,
    fun hne => move.acc_rxFault_owner.resolve_left fun ⟨_, hfault⟩ => hne hfault,
    move.latest_owner.resolve_left, move.started_owner.resolve_left⟩

/-- Settles O9, by the owners of the transaction's fields and of `tx_stream`. -/
theorem onlyCallerWritesTransactionState : Obligations.OnlyCallerWritesTransactionState := by
  intro i s t h
  have move : EngineMove i s t.eng := (exec_moves h).eng
  constructor
  · intro hne
    have howner : SendsCommand i ∨ i = .txnPoll ∨ i = .reset :=
      move.guard_owner.resolve_left fun ⟨hbusy, htxn⟩ => hne.elim (· hbusy) (· htxn)
    simpa only [SendsCommand, or_assoc] using howner
  · intro hne
    have howner : SendsCommand i ∨ i = .reset := by
      rcases hne with ht0 | htimeout | htx
      · exact move.latched_owner.resolve_left fun ⟨hsame, _⟩ => ht0 hsame
      · exact move.latched_owner.resolve_left fun ⟨_, hsame⟩ => htimeout hsame
      · exact (exec_environmentMove h).txStream_owner.resolve_left htx
    simpa only [SendsCommand, or_assoc] using howner

/-- Settles O10, by the owners of `rx_pending` and `now`. -/
theorem onlyEnvironmentMovesTimeAndArrivals : Obligations.OnlyEnvironmentMovesTimeAndArrivals := by
  intro i s t h
  have move : EnvironmentMove i s t.eng t.env := exec_environmentMove h
  exact ⟨move.rxPending_owner.resolve_left, move.now_owner.resolve_left, (exec_moves h).now⟩

/-- Settles O11: the one append is that of an accepted transaction. -/
theorem txStreamOnlyGrowsByAcceptedWrites : Obligations.TxStreamOnlyGrowsByAcceptedWrites :=
  fun _ _ _ h hi => (exec_environmentMove h).txStream_append hi

/-- Settles O12: the fault disables the reader, and it keeps every transaction from being accepted, so nothing can be
appended to `tx_stream`. -/
theorem rxFaultStaysUntilReset : Obligations.RxFaultStaysUntilReset := by
  intro i s t h hfault hi
  obtain ⟨hfault', hacc⟩ := (exec_moves h).eng.faulted_stays hfault hi
  obtain ⟨b, htx, haccepted⟩ := (exec_environmentMove h).txStream_append hi
  have hb : b = [] := by
    by_contra hne
    obtain ⟨-, hclear, -⟩ := haccepted hne
    rw [hfault] at hclear
    cases hclear
  exact ⟨hfault', hacc, by rw [htx, hb, List.append_nil]⟩

/-- Settles O13, by the arrows of the engine's moves. -/
theorem txnStateFollowsArrows : Obligations.TxnStateFollowsArrows :=
  fun _ _ _ hs h hi => (exec_moves h).eng.follows_arrows hs hi

/-- Settles O14: each operation's outcome is computed from the operand ports, the configuration and the draw, and the
result ports from the draw and that outcome. -/
theorem codecResultsDependOnOperandsOnly : Obligations.CodecResultsDependOnOperandsOnly := by
  intro i s s' t t' hi hargs hcfg hdraws h h'
  simp only [List.mem_cons, List.not_mem_nil, or_false] at hi
  rcases hi with rfl | rfl | rfl | rfl | rfl | rfl | rfl | rfl | rfl <;> cases h <;> cases h'
  · simp only [runCrc_draws, complete_res, hargs, hcfg, hdraws]
  · exact completeBytes_res_congr hdraws (by simp only [argUint, hargs, hcfg])
  · exact completeValue_res_congr hdraws (by simp only [hargs])
  · exact completeBytes_res_congr hdraws (by simp only [argFloat, hargs, hcfg, hdraws])
  · exact completeValue_res_congr hdraws (by simp only [hargs, hdraws])
  · exact completeValue_res_congr hdraws (by simp only [hargs])
  · exact completeBytes_res_congr hdraws (by simp only [argBool, hargs])
  · rw [frameEnc_res, frameEnc_res, hargs, hcfg, hdraws]
  · rw [frameDec_res, frameDec_res, hargs, hcfg, hdraws]

/-- Settles O4: nothing is pending or accumulated, the sets are laid out with zeros, and the default parameters are in
range. -/
theorem resetHasInvariant : Obligations.ResetHasInvariant where
  guardMatches := by simp [GuardMatches, State.reset]
  latchedInPast hbusy := nomatch hbusy
  buffersBounded _ hbound := nomatch hbound
  setsKeepLayout := reset_setsKeepLayout
  exchangePending hwait := nomatch hwait
  configInRange := by unfold ConfigInRange; decide

/-- Settles O5: `State.reset` is written with these values. -/
theorem resetStateHasTableValues : Obligations.ResetStateHasTableValues :=
  ⟨rfl, rfl, rfl, rfl, rfl, rfl, rfl, rfl, rfl⟩

end Sys2Proof.Machine

/-! PROOF. What the next step runs, forward from the schedule or the free choice; what TRANSACTION and TXN_POLL do where
their guards are known; that no instruction touches the buffers an EXCHANGE keeps; and ENC_UINT. From these the
statements about a step, about EXCHANGE going on, about the stale buffer and about unsigned encoding. -/

namespace Sys2Proof.Machine

/-! ## Taking a step -/

/-- The turn is `e`'s, and `t` is the state with it taken up: it heads the schedule, or with nothing scheduled it is the
free agent's (R66, R67). -/
theorem nextEvent_of_turn {s t : State} {e : Event}
    (h : (s.schedule = [] ∧ e = autonomous s.draws ∧ t = s.draw) ∨
      ∃ rest, s.schedule = e :: rest ∧ t = s.setSchedule rest) : nextEvent s = (e, t) := by
  rcases h with ⟨hs, rfl, rfl⟩ | ⟨rest, hs, rfl⟩ <;> simp [nextEvent, hs]

/-- Taking up `e` leaves the rest of the schedule, and uses free values if `e` was freely chosen. -/
theorem nextEvent_of_scheduled_or_free {s : State} {rest : List Event} {e : Event}
    (h : s.schedule = e :: rest ∨ (s.schedule = [] ∧ rest = [] ∧ autonomous s.draws = e)) :
    ∃ d, nextEvent s = (e, { s with schedule := rest, draws := d }) := by
  rcases h with hs | ⟨hs, rfl, rfl⟩
  · exact ⟨s.draws, nextEvent_of_turn (.inr ⟨rest, hs, rfl⟩)⟩
  · refine ⟨s.draws + 1, nextEvent_of_turn (.inl ⟨hs, rfl, ?_⟩)⟩
    rw [State.draw, hs]

/-- What the decoder, the boundary and the host read is not changed by taking up an event. -/
theorem nextEvent_keeps {s t : State} {e : Event} (h : nextEvent s = (e, t)) :
    t.cfg = s.cfg ∧ t.toDecode = s.toDecode ∧ ∀ id, t.regSet id = s.regSet id := by
  rcases nextEvent_cases s with ⟨-, hn⟩ | ⟨e', rest, -, hn⟩ <;> rw [hn] at h <;> cases h <;> simp

theorem step_of_run {s t u : State} {e : Event} {i : Instr} (hn : nextEvent s = (e, t))
    (hf : fetchEvent e t = .run i u) : step s = settle (exec i u) := by
  simp [step, fetch, hn, hf]

theorem step_of_host {s t u : State} {e : Event} (hn : nextEvent s = (e, t)) (hf : fetchEvent e t = .host u) :
    step s = .next u := by
  simp [step, fetch, hn, hf]

theorem fetchEvent_opcode {t : State} {b : Byte} {i : Instr} (h : decodeOpcode t.cfg.opcReadbackError b = some i) :
    fetchEvent (.opcode b) t = .run i t := by
  simp [fetchEvent, h]

theorem fetchEvent_resume_cons {t : State} {b : Bytes} {more : List Bytes} (h : t.toDecode = b :: more) :
    fetchEvent .resume t = .run .frameDec (((t.setToDecode more).setInBuf b).setOpSel 0x8) := by
  simp [fetchEvent, h]

theorem fetchEvent_resume_nil {t : State} (h : t.toDecode = []) : fetchEvent .resume t = .host t := by
  simp [fetchEvent, h]

@[simp] theorem settle_next (t : State) : settle (.next t) = .next (continueExchange t) := rfl

/-- No EXCHANGE waits, or its transaction is still pending. -/
theorem continueExchange_of_idle {t : State} (h : t.exchanging = false ∨ t.eng.busy = true) :
    continueExchange t = t := by
  rcases h with h | h <;> simp [continueExchange, h]

/-- The transaction an EXCHANGE waits for has ended (R102). -/
theorem continueExchange_of_ended {t : State} (hwait : t.exchanging = true) (hidle : t.eng.busy = false) :
    continueExchange t = (t.setExchanging false).setToDecode
      (t.toDecode ++ if t.eng.txnState = .dataReady then [t.res.outBuf] else []) := by
  simp [continueExchange, hwait, hidle]

/-! ## TRANSACTION and TXN_POLL with their guards known -/

/-- R200, steps 3 to 5. -/
theorem transaction_of_free {s : State} (hfault : s.eng.rxFault = false) (hbusy : s.eng.busy = false) :
    s.transaction = s.accept := by
  simpa [hfault, hbusy] using transaction_cases s

/-- R202. -/
theorem execTxnPoll_of_data {s : State} (hbusy : s.eng.busy = true) (hdata : s.eng.latest ≠ []) :
    execTxnPoll s = .next s.takeLatest := by
  simpa [hbusy, hdata] using execTxnPoll_cases s

/-- R203. -/
theorem execTxnPoll_of_due {s : State} (hbusy : s.eng.busy = true) (hdata : s.eng.latest = [])
    (hdue : s.eng.timeoutLatched ≤ s.env.now - s.eng.t0) : execTxnPoll s = .next s.timeOut := by
  simpa [hbusy, hdata, hdue, Nat.not_lt_of_le hdue] using execTxnPoll_cases s

/-- R204. -/
theorem execTxnPoll_of_early {s : State} (hbusy : s.eng.busy = true) (hdata : s.eng.latest = [])
    (hearly : s.env.now - s.eng.t0 < s.eng.timeoutLatched) : execTxnPoll s = .next s := by
  simpa [hbusy, hdata, hearly, Nat.not_le_of_lt hearly] using execTxnPoll_cases s

/-! ## The poll of a waiting EXCHANGE -/

section Poll

variable {s t : State} (hn : nextEvent s = (.act .txnPoll, t))
include hn

/-- The buffer taken is kept for FRAME_DEC, and the wait is over (R102, R202). -/
theorem step_of_poll_data (hwait : t.exchanging = true) (hbusy : t.eng.busy = true) (hdata : t.eng.latest ≠ []) :
    step s = .next ((t.takeLatest.setExchanging false).setToDecode (t.toDecode ++ [t.eng.latest])) := by
  have hpoll : exec .txnPoll t = .next t.takeLatest := execTxnPoll_of_data hbusy hdata
  rw [step_of_run hn rfl, hpoll, settle_next, continueExchange_of_ended (t := t.takeLatest) hwait rfl]
  rfl

/-- The failure stands as the result, and the wait is over (R102, R203). -/
theorem step_of_poll_due (hwait : t.exchanging = true) (hbusy : t.eng.busy = true) (hdata : t.eng.latest = [])
    (hdue : t.eng.timeoutLatched ≤ t.env.now - t.eng.t0) :
    step s = .next ((t.timeOut.setExchanging false).setToDecode t.toDecode) := by
  have hpoll : exec .txnPoll t = .next t.timeOut := execTxnPoll_of_due hbusy hdata hdue
  rw [step_of_run hn rfl, hpoll, settle_next, continueExchange_of_ended (t := t.timeOut) hwait rfl]
  simp [State.timeOut]

/-- The EXCHANGE waits on (R102, R204). -/
theorem step_of_poll_early (hbusy : t.eng.busy = true) (hdata : t.eng.latest = [])
    (hearly : t.env.now - t.eng.t0 < t.eng.timeoutLatched) : step s = .next t := by
  have hpoll : exec .txnPoll t = .next t := execTxnPoll_of_early hbusy hdata hearly
  rw [step_of_run hn rfl, hpoll, settle_next, continueExchange_of_idle (.inr hbusy)]

end Poll

/-! ## The buffers an EXCHANGE keeps -/

@[simp] theorem completeBytes_toDecode (s : State) (r : Except SubCause Bytes) :
    (s.completeBytes r).toDecode = s.toDecode := by
  rw [completeBytes_keeps]

@[simp] theorem completeValue_toDecode (s : State) (r : Except SubCause (BitVec 64)) :
    (s.completeValue r).toDecode = s.toDecode := by
  rw [completeValue_keeps]

@[simp] theorem frameEnc_toDecode (s : State) : s.frameEnc.toDecode = s.toDecode := by
  obtain ⟨-, -, -, -, -, h, -⟩ := frameEnc_keeps s
  exact h

@[simp] theorem frameDec_toDecode (s : State) : s.frameDec.toDecode = s.toDecode := by
  obtain ⟨-, -, -, -, -, h, -⟩ := frameDec_keeps s
  exact h

@[simp] theorem transaction_toDecode (s : State) : s.transaction.toDecode = s.toDecode := by
  rcases transaction_cases s with ⟨-, h⟩ | ⟨-, -, h⟩ | ⟨-, -, h⟩ <;> rw [h] <;> rfl

@[simp] theorem sendCommand_toDecode (s : State) : s.sendCommand.toDecode = s.toDecode := by
  rcases sendCommand_cases s with ⟨-, h⟩ | ⟨-, h⟩ <;> simp [h]

theorem execExchange_toDecode {s t : State} (h : execExchange s = .next t) : t.toDecode = s.toDecode := by
  unfold execExchange at h
  cases h
  split <;> simp

theorem execDeserialize_toDecode {set : SetId} {s t : State} (h : execDeserialize set s = .next t) :
    t.toDecode = s.toDecode := by
  unfold execDeserialize at h
  split at h
  · cases h
    simp
  · split at h <;> cases h <;> simp

theorem execTxnPoll_toDecode {s t : State} (h : execTxnPoll s = .next t) : t.toDecode = s.toDecode := by
  rcases execTxnPoll_cases s with ⟨-, hp⟩ | ⟨-, -, hp⟩ | ⟨-, -, -, hp⟩ | ⟨-, -, -, hp⟩ <;> rw [hp] at h <;> cases h <;>
    rfl

theorem execRdStep_toDecode {k : Nat} {s t : State} (h : execRdStep k s = .next t) : t.toDecode = s.toDecode := by
  rcases execRdStep_cases k s with ⟨-, hr⟩ | ⟨-, -, -, hr⟩ | ⟨-, -, -, hr⟩ | ⟨-, -, -, hr⟩ | ⟨-, -, -, hr⟩ <;>
    rw [hr] at h <;> cases h <;> rfl

/-- No instruction touches the buffers kept: they are the host's (R102). -/
theorem exec_toDecode {i : Instr} {s t : State} (h : exec i s = .next t) : t.toDecode = s.toDecode := by
  cases i with
  | encUint | encFloat | encBool | serialize set =>
    cases h
    exact completeBytes_toDecode s _
  | decUint | decFloat | decBool =>
    cases h
    exact completeValue_toDecode s _
  | frameEnc =>
    cases h
    exact frameEnc_toDecode s
  | frameDec =>
    cases h
    exact frameDec_toDecode s
  | transaction =>
    cases h
    exact transaction_toDecode s
  | frameCmd =>
    cases h
    exact sendCommand_toDecode s
  | exchange => exact execExchange_toDecode h
  | deserialize set => exact execDeserialize_toDecode h
  | txnPoll => exact execTxnPoll_toDecode h
  | rdStep k => exact execRdStep_toDecode h
  | crc16 | start | reset | tick d | envRx e | frameRsp opLow opHigh err payload
  | reservedB | reservedC | reservedD | reservedE | reservedF
  | opcLogin | opcLogout | opcTestCommand | opcOnlineAdjust | opcReadbackSampling | opcStopTest | opcReadbackError
  | statusOk | statusFrameEmpty | statusFrameInvalidMarkers | statusFrameLengthMismatch | statusFrameCrcMismatch
  | statusEncodingError c | statusRegisterLengthMismatch | statusRangeError | statusTransactionTimeout | statusBusy
  | statusRxOverflow | statusIllegalOperation =>
    cases h
    rfl

/-! ## What a completed operation reports -/

theorem complete_reports (s : State) (st : Status) (w : Written) : Reports (s.complete st w) st := ⟨rfl, rfl⟩

theorem complete_sameButResults (s : State) (st : Status) (w : Written) : SameButResults s (s.complete st w) := rfl

theorem raise_failsWith (s : State) (st : Status) : FailsWith s (s.raise st) st := ⟨⟨rfl, rfl⟩, rfl⟩

/-! ## ENC_UINT -/

theorem uintWidth_iff (w : Nat) : uintWidth w = true ↔ w ∈ [2, 4] := by simp [uintWidth]

/-- At a legal width a value is laid out where it fits or may be cut (R131, R132). -/
theorem encodeUint_ok {policy : UintPolicy} {v w : Nat} (hw : w ∈ [2, 4]) (h : v < 256 ^ w ∨ policy = .truncate) :
    encodeUint policy v w = .ok (leBytes w v) := by
  unfold encodeUint
  rw [(uintWidth_iff w).mpr hw]
  by_cases hfits : v < 256 ^ w
  · simp [hfits]
  · simp [hfits, h.resolve_left hfits]

/-- At a legal width a value that does not fit and may not be cut is refused (R132). -/
theorem encodeUint_refused {v w : Nat} (hw : w ∈ [2, 4]) (h : 256 ^ w ≤ v) :
    encodeUint .fault v w = .error .valueOutOfRange := by
  unfold encodeUint
  rw [(uintWidth_iff w).mpr hw]
  simp [Nat.not_lt_of_le h]

/-! ## The obligations -/

/-- Settles O20: the bytes laid out, or the refusal, are what ENC_UINT reports. -/
theorem encUintWritesLittleEndian : Obligations.EncUintWritesLittleEndian := by
  intro s hw
  constructor
  · intro hfits
    refine ⟨s.complete .ok { outBuf := some (leBytes s.args.width s.args.value.toNat) }, ?_, complete_reports s _ _,
      complete_sameButResults s _ _, leBytes_length _ _, leBytes_getElem? _ _⟩
    simp only [exec, execEncUint, argUint, encodeUint_ok hw hfits, State.completeBytes]
  · intro hlarge hpolicy
    refine ⟨s.raise (.encodingError .valueOutOfRange), ?_, raise_failsWith s _⟩
    simp only [exec, execEncUint, argUint, hpolicy, encodeUint_refused hw hlarge, State.completeBytes]

/-- Settles O45: accepting leaves the slot alone and sets the guard, so the first poll takes what the slot held. -/
theorem staleBufferIsReturned : Obligations.StaleBufferIsReturned := by
  intro s hfault hbusy hdata
  have haccept : exec .transaction s = .next s.accept := congrArg _ (transaction_of_free hfault hbusy)
  have hpoll : exec .txnPoll s.accept = .next s.accept.takeLatest := execTxnPoll_of_data rfl hdata
  exact ⟨s.accept, s.accept.takeLatest, haccept, hpoll, complete_reports _ _ _, rfl, rfl, rfl, rfl, rfl⟩

/-- Settles O56: the poll's three outcomes, each settled for the waiting EXCHANGE; the frame of every instruction; and
FRAME_DEC, after which no EXCHANGE waits. -/
theorem exchangeDecodesReceivedBuffer : Obligations.ExchangeDecodesReceivedBuffer := by
  refine ⟨fun s rest hturn hwait hbusy => ?_, fun i s t => exec_toDecode, fun s rest b more hturn hkept hwait => ?_⟩
  · obtain ⟨d, hn⟩ := nextEvent_of_scheduled_or_free hturn
    exact ⟨fun hdata => ⟨_, step_of_poll_data hn hwait hbusy hdata, complete_reports _ _ _, rfl, rfl, rfl, rfl⟩,
      fun hdata hdue => ⟨_, step_of_poll_due hn hwait hbusy hdata hdue, complete_reports _ _ _, rfl, rfl, rfl⟩,
      fun hdata hearly => ⟨_, step_of_poll_early hn hbusy hdata hearly, rfl⟩⟩
  · obtain ⟨d, hn⟩ := nextEvent_of_scheduled_or_free hturn
    have hstep := step_of_run hn (fetchEvent_resume_cons hkept)
    obtain ⟨-, -, -, -, hex, -⟩ :=
      frameDec_keeps { s with
        opSel := 0x8, args := { s.args with inBuf := b }, toDecode := more, schedule := rest, draws := d }
    exact ⟨d, _, hstep.trans (congrArg _ (continueExchange_of_idle (.inl (hex.trans hwait)))), rfl⟩

/-- Settles O1: the turn's event is fetched and its instruction, if it has one, is settled; taking the event up changes
nothing the fetch reads. -/
theorem stepRunsScheduledEvent : Obligations.StepRunsScheduledEvent := by
  refine ⟨fun s t e hturn => ?_, autonomous_cases, fun u => ⟨fun hidle => ?_, fun hwait hended => ?_⟩⟩
  · have hn : nextEvent s = (e, t) := nextEvent_of_turn hturn
    obtain ⟨hcfg, hkept, hregs⟩ := nextEvent_keeps hn
    refine ⟨?request, ?opcode, ?act, ?drive, ?assign, ?resume, ?passes⟩
    case request =>
      rintro c rfl
      exact step_of_run hn rfl
    case opcode =>
      rintro b i rfl hdecode
      exact step_of_run hn (fetchEvent_opcode (by rw [hcfg, hdecode]))
    case act =>
      rintro i rfl
      exact step_of_run hn rfl
    case drive =>
      rintro a rfl
      exact step_of_host hn rfl
    case assign =>
      rintro set vs rfl
      rw [← hregs]
      exact step_of_host hn rfl
    case resume =>
      rintro b more rfl hbuffers
      exact step_of_run hn (fetchEvent_resume_cons (hkept.trans hbuffers))
    case passes =>
      rintro rfl hnone
      exact step_of_host hn (fetchEvent_resume_nil (hkept.trans hnone))
  · rw [settle_next, continueExchange_of_idle hidle]
  · rw [settle_next, continueExchange_of_ended hwait hended]
    rfl

end Sys2Proof.Machine

/-! PROOF. The two wire formats and the codes. What FRAME_DEC reads back from a frame laid out around a body, and what
FRAME_ENC lays out, each said once; how a command is refused; and the codes of R95, R97 and R98. From these the
statements about response frames, command frames, EXCHANGE, arrivals, codes, constants and statuses. -/

namespace Sys2Proof.Machine

/-! ## CRC16 as the other operations cite it -/

/-- CRC16 of any message reports the pair the frame codec computes (R113). -/
theorem exec_crc16_reports (s : State) (m : Bytes) :
    ∃ u, exec .crc16 (s.setInBuf m) = .next u ∧ u.res.crcLow = (crc16 s.cfg m).low ∧
      u.res.crcHigh = (crc16 s.cfg m).high :=
  ⟨_, rfl, rfl, rfl⟩

/-! ## FRAME_DEC of a frame laid out around a body -/

section Decoding

variable {body : Bytes} (c : CrcPair) (hlong : 3 ≤ body.length) (hfits : body.length < 256 ^ 4)
include hlong hfits

theorem rawFrame_framingStatus_ok : framingStatus (rawFrame body c) = .ok := by
  rw [rawFrame_framingStatus body c hfits, if_neg (Nat.not_lt_of_le hlong)]

/-- Every field is consumed (R170). -/
theorem rawFrame_frameCursor : frameCursor (rawFrame body c) = body.length + 8 := by
  rw [frameCursor, if_pos (rawFrame_framingStatus_ok c hlong hfits), rawFrame_length]

/-- The CRC test is the only one left, and only strict mode makes it (R174). -/
theorem rawFrame_frameStatus (cfg : Config) :
    frameStatus cfg (rawFrame body c) = if cfg.crcStrict ∧ crc16 cfg body ≠ c then .frameCrcMismatch else .ok := by
  have hok := rawFrame_framingStatus_ok c hlong hfits
  simp only [frameStatus, hok, rawFrame_body body c hfits, rawFrame_receivedCrc body c hfits, ne_eq, not_true_eq_false,
    if_false]

/-- The frame with the computed pair passes in either mode. -/
theorem frameAround_frameStatus (cfg : Config) : frameStatus cfg (frameAround cfg body) = .ok := by
  rw [frameAround_eq_rawFrame, rawFrame_frameStatus _ hlong hfits]
  simp

end Decoding

/-- A byte of the body is five bytes further on in the frame (R80). -/
theorem rawFrame_byteAt (body : Bytes) (c : CrcPair) {i : Nat} (h : i < body.length) :
    byteAt (rawFrame body c) (5 + i) = byteAt body i := by
  have hhead : ([soi] ++ leBytes lenWidth body.length).length = 5 := by simp [lenWidth]
  have hat := byteAt_append ([soi] ++ leBytes lenWidth body.length) (body ++ crcWire c ++ [eoi]) i
  rw [hhead] at hat
  have hframe : rawFrame body c = [soi] ++ leBytes lenWidth body.length ++ (body ++ crcWire c ++ [eoi]) := by
    simp [rawFrame]
  rw [hframe, hat]
  simp [byteAt, List.getElem?_append_left h]

/-- What follows the three bytes of the response header, up to the CRC, is the payload (R82, R173). -/
theorem rawFrame_payload (opLow opHigh err : Byte) (payload : Bytes) (c : CrcPair) :
    slice (rawFrame (responseBody opLow opHigh err payload) c) 8
      (5 + (responseBody opLow opHigh err payload).length) = payload := by
  have hend : 5 + (responseBody opLow opHigh err payload).length = 8 + payload.length := by
    simp [responseBody]
    omega
  have hslice := slice_append ([soi] ++ leBytes lenWidth (responseBody opLow opHigh err payload).length ++
    [opLow, opHigh, err]) payload (crcWire c ++ [eoi])
  rw [hend]
  simpa [rawFrame, responseBody, lenWidth] using hslice

/-- The fields FRAME_DEC finds in a response body are those it was made of (R82, R173). -/
theorem rawFrame_frameFields (opLow opHigh err : Byte) (payload : Bytes) (c : CrcPair)
    (h : (responseBody opLow opHigh err payload).length < 256 ^ 4) :
    frameFields (rawFrame (responseBody opLow opHigh err payload) c) =
      { opcode := some (opHigh ++ opLow), errCode := some err, outBuf := some payload, crcLow := some c.low,
        crcHigh := some c.high } := by
  have hheader : ∀ i < 3, byteAt (rawFrame (responseBody opLow opHigh err payload) c) (5 + i) =
      byteAt (responseBody opLow opHigh err payload) i :=
    fun i hi => rawFrame_byteAt _ c (by simp [responseBody]; omega)
  rw [frameFields, hheader 0 (by decide), hheader 1 (by decide), hheader 2 (by decide), rawFrame_receivedCrc _ c h,
    rawFrame_declaredLen _ c h, rawFrame_payload]
  rfl

/-- FRAME_DEC changes result ports and working registers only (R177, R22, R24). -/
theorem frameDec_sameButResultsCrcPos (s : State) : SameButResultsCrcPos s s.frameDec := by
  rcases frameDec_cases s with ⟨-, h⟩ | ⟨-, h⟩ <;> rw [h, checkCrc_eq] <;> rfl

/-- The cursor FRAME_DEC leaves (R24, R170). -/
theorem frameDec_pos (s : State) : s.frameDec.pos = frameCursor s.args.inBuf := by
  rcases frameDec_cases s with ⟨-, h⟩ | ⟨-, h⟩ <;> rw [h, checkCrc_eq] <;> rfl

/-- FRAME_DEC reports the first test that fails, or `Ok` (R176). -/
theorem frameDec_reports (s : State) : Reports s.frameDec (frameStatus s.cfg s.args.inBuf) := by
  rw [Reports, frameDec_res]
  exact ⟨rfl, rfl⟩

/-! ## What FRAME_ENC lays out -/

/-- The command frame of R81, byte for byte. -/
theorem commandFrame_layout (cfg : Config) (opLow : Byte) (payload : Bytes) :
    commandFrame cfg opLow payload =
      [0x7E] ++ leBytes 4 (payload.length + 2) ++ [opLow, 0x00] ++ payload ++
        [(crc16 cfg ([opLow, 0x00] ++ payload)).low, (crc16 cfg ([opLow, 0x00] ++ payload)).high] ++ [0xFF] := by
  rw [List.append_assoc ([0x7E] ++ _) [opLow, 0x00] payload]
  rfl

/-- The opcode byte of a command frame stands at offset 5 (R81, R98). -/
theorem commandFrame_opcodeByte (cfg : Config) (opLow : Byte) (payload : Bytes) :
    (commandFrame cfg opLow payload)[5]? = some opLow := rfl

theorem lowByte_eq_extractLsb' (o : BitVec 16) : lowByte o = o.extractLsb' 0 8 := by
  rw [lowByte, BitVec.setWidth_eq_extractLsb' (by decide)]

@[simp] theorem lowByte_setWidth (b : Byte) : lowByte (b.setWidth 16) = b := by
  simp [lowByte]

theorem exec_frameEnc (s : State) : exec .frameEnc s = .next s.frameEnc := rfl

/-- FRAME_ENC of a payload within the bound (R161). -/
theorem frameEnc_of_fits {s : State} (h : s.args.inBuf.length ≤ payloadBound s.cfg) :
    s.frameEnc = (s.runCrc (commandBody (lowByte s.args.opcode) s.args.inBuf)).complete .ok
      { outBuf := some (commandFrame s.cfg (lowByte s.args.opcode) s.args.inBuf) } := by
  simpa [h, Nat.not_lt_of_le h] using frameEnc_cases s

/-- FRAME_ENC of a payload past the bound (R165). -/
theorem frameEnc_of_long {s : State} (h : payloadBound s.cfg < s.args.inBuf.length) :
    s.frameEnc = s.raise (.encodingError .valueOutOfRange) := by
  simpa [h, Nat.not_le_of_lt h] using frameEnc_cases s

/-! ## Sending a command -/

/-- R200, step 1. -/
theorem transaction_of_fault {s : State} (hfault : s.eng.rxFault = true) : s.transaction = s.raise .rxOverflow := by
  simpa [hfault] using transaction_cases s

/-- R200, step 2. -/
theorem transaction_of_busy {s : State} (hfault : s.eng.rxFault = false) (hbusy : s.eng.busy = true) :
    s.transaction = s.raise .busy := by
  simpa [hfault, hbusy] using transaction_cases s

/-- R102 (1), first operation. -/
theorem sendCommand_of_long {s : State} (h : payloadBound s.cfg < s.args.inBuf.length) :
    s.sendCommand = s.raise (.encodingError .valueOutOfRange) := by
  simpa [h, Nat.not_le_of_lt h] using sendCommand_cases s

/-- R102 (1), second operation. -/
theorem sendCommand_of_fits {s : State} (h : s.args.inBuf.length ≤ payloadBound s.cfg) :
    s.sendCommand = (s.frameEnc.setInBuf s.frameEnc.res.outBuf).transaction := by
  simpa [h, Nat.not_lt_of_le h] using sendCommand_cases s

/-- The frame is loaded into `IN_BUF` and accepted: FRAME_ENC has left engine and port as they were (R102 (1), R200). -/
theorem sendCommand_of_free {s : State} (hfits : s.args.inBuf.length ≤ payloadBound s.cfg)
    (hfault : s.eng.rxFault = false) (hbusy : s.eng.busy = false) :
    s.sendCommand =
      { s.frameEnc with
        args := { s.args with inBuf := s.frameEnc.res.outBuf },
        env := { s.env with txStream := s.env.txStream ++ s.frameEnc.res.outBuf },
        eng :=
          { s.eng with
            busy := true, txnState := .reading, t0 := s.env.now, timeoutLatched := s.args.timeout } } := by
  rw [sendCommand_of_fits hfits, frameEnc_of_fits hfits]
  exact transaction_of_free hfault hbusy

/-- A refusal by TRANSACTION is the answer, and disturbs nothing: neither has FRAME_ENC (R102 (1), R200). -/
theorem sendCommand_of_refused {s : State} {st : Status} (hfits : s.args.inBuf.length ≤ payloadBound s.cfg)
    (hrefused : (s.frameEnc.setInBuf s.frameEnc.res.outBuf).transaction =
      (s.frameEnc.setInBuf s.frameEnc.res.outBuf).raise st) :
    Reports s.sendCommand st ∧ s.sendCommand.eng = s.eng ∧ s.sendCommand.env = s.env ∧
      s.sendCommand.exchanging = s.exchanging := by
  obtain ⟨heng, henv, -, -, hwait, -⟩ := frameEnc_keeps s
  rw [sendCommand_of_fits hfits, hrefused]
  exact ⟨complete_reports _ _ _, heng, henv, hwait⟩

theorem sendable_iff (s : State) :
    sendable s = true ↔ s.args.inBuf.length ≤ payloadBound s.cfg ∧ s.eng.rxFault = false ∧ s.eng.busy = false := by
  simp [sendable, acceptable]

/-- A command that cannot be sent gets the same answer from both instructions: EXCHANGE does not wait (R102 (1)). -/
theorem exec_of_not_sendable {s : State} {i : Instr} (hi : i ∈ ([.exchange, .frameCmd] : List Instr))
    (h : ¬sendable s = true) : exec i s = .next s.sendCommand := by
  fin_cases hi
  · simp [exec, execExchange, h]
  · rfl

/-! ## The codec of a boolean -/

/-- R145, R146. -/
@[simp] theorem decodeBool_encodeBool (t : Bool) : decodeBool (encodeBool t) = .ok t := by cases t <;> rfl

/-- DEC_BOOL of the byte of a bit reports the bit. -/
theorem exec_decBool_encodeBool (s : State) (t : Bool) :
    exec .decBool (s.setInBuf (encodeBool t)) =
      .next ((s.setInBuf (encodeBool t)).complete .ok { value := some (boolValue t) }) := by
  simp [exec, execDecBool, Except.map, State.completeValue]

/-! ## The codes of the operations -/

/-- Only the code of `OPC_READBACK_ERROR` depends on its configured value (R98). -/
theorem encode_congr {i : Instr} (h : i ≠ .opcReadbackError) (rb rb' : Byte) : encode rb i = encode rb' i := by
  cases i with
  | opcReadbackError => exact absurd rfl h
  | _ => rfl

/-! ## The obligations -/

/-- Settles O35: the frame passes every test, and its fields are those of the body it was laid out around. -/
theorem responseFrameDecodesToItsFields : Obligations.ResponseFrameDecodesToItsFields := by
  intro s opLow opHigh err payload hwf hbuf
  have hlen : (responseBody opLow opHigh err payload).length = payload.length + 3 := rfl
  have hfits : (responseBody opLow opHigh err payload).length < 256 ^ 4 := of_decide_eq_true hwf
  have hlong : 3 ≤ (responseBody opLow opHigh err payload).length := by omega
  have hstatus : frameStatus s.cfg s.args.inBuf = .ok := by
    rw [hbuf]
    exact frameAround_frameStatus hlong hfits s.cfg
  have hres := frameDec_res s
  have hpos := frameDec_pos s
  rw [hstatus, if_pos rfl, hbuf, responseFrame, frameAround_eq_rawFrame, rawFrame_frameFields _ _ _ _ _ hfits] at hres
  rw [hbuf, responseFrame, frameAround_eq_rawFrame, rawFrame_frameCursor _ hlong hfits, hlen] at hpos
  refine ⟨s.frameDec, rfl, hstatus ▸ frameDec_reports s, frameDec_sameButResultsCrcPos s, ?_⟩
  rw [hres]
  exact ⟨rfl, rfl, rfl, rfl, rfl, hpos⟩

/-- Settles O32: within the bound the layout of the command frame with CRC16's bytes; past it the refusal. -/
theorem frameEncLaysOutCommandFrame : Obligations.FrameEncLaysOutCommandFrame := by
  intro s
  constructor
  · intro hmax hfield
    obtain ⟨u, hu, hlow, hhigh⟩ := exec_crc16_reports s ([s.args.opcode.extractLsb' 0 8, 0x00] ++ s.args.inBuf)
    have henc := frameEnc_of_fits (le_min hmax hfield)
    refine ⟨_, u, (exec_frameEnc s).trans (congrArg _ henc), complete_reports _ _ _, rfl, hu, ?_⟩
    rw [hlow, hhigh, ← lowByte_eq_extractLsb']
    exact commandFrame_layout _ _ _
  · intro hlong
    exact ⟨_, (exec_frameEnc s).trans (congrArg _ (frameEnc_of_long (min_lt_iff.mpr hlong))), raise_failsWith s _⟩

/-- Settles O54: FRAME_ENC leaves the engine free, so TRANSACTION accepts the frame. -/
theorem exchangeSendsCommandFrame : Obligations.ExchangeSendsCommandFrame := by
  intro s hfits hfault hbusy
  have hsend := sendCommand_of_free hfits hfault hbusy
  have hexchange : exec .exchange s = .next (s.sendCommand.setExchanging true) := by
    simp [exec, execExchange, (sendable_iff s).mpr ⟨hfits, hfault, hbusy⟩]
  exact ⟨s.frameEnc, s.sendCommand, rfl, hsend, rfl, hexchange⟩

/-- Settles O55: the refusals of FRAME_ENC and of TRANSACTION, in their order. -/
theorem exchangeFailsAsItsParts : Obligations.ExchangeFailsAsItsParts := by
  intro s i hi
  obtain ⟨heng, -⟩ := frameEnc_keeps s
  refine ⟨fun hlong => ?_, fun hfits hfault => ?_, fun hfits hfault hbusy => ?_⟩
  · have hx := exec_of_not_sendable hi (s := s) (by simp [sendable_iff, Nat.not_le_of_lt hlong])
    exact ⟨_, hx.trans (congrArg _ (sendCommand_of_long hlong)), raise_failsWith s _⟩
  · have hx := exec_of_not_sendable hi (s := s) (by simp [sendable_iff, hfault])
    exact ⟨_, hx, sendCommand_of_refused hfits (transaction_of_fault (heng ▸ hfault))⟩
  · have hx := exec_of_not_sendable hi (s := s) (by simp [sendable_iff, hbusy])
    exact ⟨_, hx, sendCommand_of_refused hfits (transaction_of_busy (heng ▸ hfault) (heng ▸ hbusy))⟩

/-- Settles O15: the sixteen codes, none of which is the configured constant's. -/
theorem opSelCodesAreDistinct : Obligations.OpSelCodesAreDistinct := by
  intro rb c
  have hcodes : ∀ c : BitVec 4, decodeOpSel c ≠ .opcReadbackError ∧
      encode defaultReadbackError (decodeOpSel c) = some (.opSel c) := by decide
  obtain ⟨hfixed, hcode⟩ := hcodes c
  rw [encode_congr hfixed rb defaultReadbackError, hcode]

/-- Settles O16: the words of the two maps, and one byte of neither, decoded. -/
theorem tableWordsDecode : Obligations.TableWordsDecode := by
  unfold Obligations.TableWordsDecode
  decide

/-- Settles O31: ENC_BOOL reports the byte of the bit, from which DEC_BOOL decodes the bit. -/
theorem encBoolInvertsDecBool : Obligations.EncBoolInvertsDecBool := fun s =>
  ⟨_, _, rfl, complete_reports s _ _, complete_sameButResults s _ _, rfl, exec_decBool_encodeBool _ _, rfl⟩

/-- Settles O50: the three steps append and advance; the response frame is laid out with CRC16's bytes. -/
theorem environmentDeliversAndTicks : Obligations.EnvironmentDeliversAndTicks := by
  intro s e d opLow opHigh err payload
  obtain ⟨u, hu, hlow, hhigh⟩ := exec_crc16_reports s ([opLow, opHigh, err] ++ payload)
  refine ⟨rfl, rfl, u, hu, ?_⟩
  rw [hlow, hhigh]
  rfl

/-- Settles O51: each reserved code raises the one failure. -/
theorem reservedCodesReportIllegalOperation : Obligations.ReservedCodesReportIllegalOperation := by
  intro s i hi
  have hraise : exec i s = .next (s.raise .illegalOperation) := by fin_cases hi <;> rfl
  exact ⟨_, hraise, raise_failsWith s _⟩

/-- Settles O52: the constant is put on `ARG_OPCODE`, whose low byte FRAME_ENC lays out at offset 5. -/
theorem opcodeConstantsSelectFrameByte : Obligations.OpcodeConstantsSelectFrameByte := by
  intro s i b hib
  constructor
  · fin_cases hib <;> rfl
  · intro hfits
    have henc := frameEnc_of_fits (s := s.setArgOpcode (b.setWidth 16)) hfits
    refine ⟨_, (exec_frameEnc _).trans (congrArg _ henc), ?_⟩
    exact (commandFrame_opcodeByte _ _ _).trans (congrArg _ (lowByte_setWidth b))

/-- Settles O53: each of the fourteen rows is the delivery of its status. -/
theorem statusCodesAreDelivered : Obligations.StatusCodesAreDelivered := by
  intro s i code info hrow
  fin_cases hrow <;> rfl

end Sys2Proof.Machine

/-! PROOF. The CRC-16 Engine. What CRC16 answers, as the fold of the byte step over the pair of registers (R112), and
that a message's pair continues that of its first part (R114). From these the two statements about CRC16. -/

namespace Sys2Proof.Machine

/-- Both new registers come from the old ones through the two tables (R112): the registers after a message, as the fold
of that rule over the pair (high, low). -/
theorem crcFrom_eq_foldl_tables (cfg : Config) (c : CrcPair) (m : Bytes) :
    ((crcFrom cfg c m).high, (crcFrom cfg c m).low) =
      m.foldl
        (fun (c : Byte × Byte) b =>
          (c.2 ^^^ cfg.tableHi.get (c.1 ^^^ b).toFin, cfg.tableLo.get (c.1 ^^^ b).toFin))
        (c.high, c.low) := by
  induction m generalizing c with
  | nil => rfl
  | cons b m ih => exact ih (crcStep cfg c b)

/-- The seed is the pair of the empty message (R111). -/
@[simp] theorem crc16_nil (cfg : Config) : crc16 cfg [] = crcSeed := rfl

/-- R114 (b). -/
theorem crc16_append (cfg : Config) (m m' : Bytes) : crc16 cfg (m ++ m') = crcFrom cfg (crc16 cfg m) m' :=
  crcFrom_append cfg crcSeed m m'

/-- CRC16 runs the working registers over the message and reports them (R111, R113). -/
theorem exec_crc16 (s : State) :
    exec .crc16 s =
      .next ((s.runCrc s.args.inBuf).complete .ok
        { crcLow := some (crc16 s.cfg s.args.inBuf).low, crcHigh := some (crc16 s.cfg s.args.inBuf).high }) := rfl

/-- Settles O17: the reported pair is the fold of the byte step from the seed, and the working registers keep it. -/
theorem crc16RunsTablesOverMessage : Obligations.Crc16RunsTablesOverMessage := fun s =>
  ⟨_, exec_crc16 s, complete_reports _ _ _, crcFrom_eq_foldl_tables s.cfg crcSeed s.args.inBuf, rfl, rfl, rfl⟩

/-- Settles O18: both answers report the pair of their message, and the longer one continues the shorter. -/
theorem crc16Continues : Obligations.Crc16Continues := by
  intro s m m'
  obtain ⟨t, ht, htLow, htHigh⟩ := exec_crc16_reports s m
  obtain ⟨u, hu, huLow, huHigh⟩ := exec_crc16_reports s (m ++ m')
  refine ⟨t, u, ht, hu, ?_, ?_⟩
  · rw [huHigh, huLow, htHigh, htLow]
    exact crc16_append s.cfg m m'
  · rintro rfl
    rw [htHigh, htLow, crc16_nil]
    exact ⟨rfl, rfl⟩

end Sys2Proof.Machine

/-! PROOF. Floating-point patterns as numbers (R89). A pattern is a sign bit over an unsigned part; an unsigned part is
an exponent and a significand; its magnitude is the significand at that exponent. On this rest the rounding to binary32
(R139), the widening to binary64 (R142) and that widening gives back what narrowing kept (R143). -/

namespace Sys2Proof.Machine

/-! ## A pattern without its sign -/

/-- A pattern without its sign bit: exponent and fraction as one number. -/
def unsignedPart (f : Format) (p : Nat) : Nat := p % 2 ^ (f.ebits + f.fbits)

/-- The pattern of infinity, sign aside. -/
def infinityOf (f : Format) : Nat := formatExpMax f * 2 ^ f.fbits

theorem infinityOf_binary32 : infinityOf binary32 = infinity32 := rfl

theorem unsignedPart_lt (f : Format) (p : Nat) : unsignedPart f p < 2 ^ (f.ebits + f.fbits) :=
  Nat.mod_lt _ (by positivity)

theorem fieldExp_eq_unsignedPart_div (f : Format) (p : Nat) :
    fieldExp f p = unsignedPart f p / 2 ^ f.fbits := by
  rw [fieldExp, unsignedPart, pow_add, Nat.mul_comm, Nat.mod_mul_right_div_self]

theorem fieldFrac_eq_unsignedPart_mod (f : Format) (p : Nat) :
    fieldFrac f p = unsignedPart f p % 2 ^ f.fbits := by
  rw [fieldFrac, unsignedPart, pow_add, Nat.mod_mul_left_mod]

theorem fieldSign_lt (f : Format) (p : Nat) : fieldSign f p < 2 := Nat.mod_lt _ (by decide)

/-- A pattern of the format's width is its sign bit over the rest. -/
theorem fieldSign_add_unsignedPart {f : Format} {p : Nat} (h : p < 2 ^ (f.ebits + f.fbits + 1)) :
    fieldSign f p * 2 ^ (f.ebits + f.fbits) + unsignedPart f p = p := by
  have hs : p / 2 ^ (f.ebits + f.fbits) < 2 := Nat.div_lt_of_lt_mul (by rwa [← pow_succ])
  rw [fieldSign, Nat.mod_eq_of_lt hs, unsignedPart, Nat.mul_comm, Nat.div_add_mod]

section Signed

variable {f : Format} {s a : Nat}

theorem fieldSign_signed (hs : s < 2) (ha : a < 2 ^ (f.ebits + f.fbits)) :
    fieldSign f (s * 2 ^ (f.ebits + f.fbits) + a) = s := by
  rw [fieldSign, Nat.add_comm, Nat.add_mul_div_right _ _ (by positivity), Nat.div_eq_of_lt ha, Nat.zero_add,
    Nat.mod_eq_of_lt hs]

theorem unsignedPart_signed (ha : a < 2 ^ (f.ebits + f.fbits)) :
    unsignedPart f (s * 2 ^ (f.ebits + f.fbits) + a) = a := by
  rw [unsignedPart, Nat.mul_add_mod_of_lt ha]

end Signed

/-! ## The kinds of pattern, by the unsigned part -/

theorem unsignedPart_div_le (f : Format) (p : Nat) : unsignedPart f p / 2 ^ f.fbits ≤ formatExpMax f := by
  have h := unsignedPart_lt f p
  rw [pow_add, ← Nat.div_lt_iff_lt_mul (by positivity)] at h
  exact Nat.le_sub_one_of_lt h

theorem isInf_iff (f : Format) (p : Nat) : isInf f p = true ↔ unsignedPart f p = infinityOf f := by
  simp only [isInf, fieldExp_eq_unsignedPart_div, fieldFrac_eq_unsignedPart_mod, infinityOf, Bool.and_eq_true,
    beq_iff_eq]
  constructor
  · rintro ⟨hexp, hfrac⟩
    rw [← hexp, Nat.div_mul_cancel (Nat.dvd_of_mod_eq_zero hfrac)]
  · intro h
    rw [h]
    exact ⟨Nat.mul_div_cancel _ (by positivity), Nat.mul_mod_left _ _⟩

theorem isNan_iff (f : Format) (p : Nat) : isNan f p = true ↔ infinityOf f < unsignedPart f p := by
  have hdiv := Nat.div_add_mod' (unsignedPart f p) (2 ^ f.fbits)
  simp only [isNan, fieldExp_eq_unsignedPart_div, fieldFrac_eq_unsignedPart_mod, infinityOf, Bool.and_eq_true,
    beq_iff_eq, bne_iff_ne]
  constructor
  · rintro ⟨hexp, hfrac⟩
    rw [hexp] at hdiv
    omega
  · intro h
    have hexp := Nat.le_antisymm (unsignedPart_div_le f p) ((Nat.le_div_iff_mul_le (by positivity)).mpr h.le)
    refine ⟨hexp, fun hfrac => ?_⟩
    rw [hexp] at hdiv
    omega

theorem isFinite_iff (f : Format) (p : Nat) : isFinite f p = true ↔ unsignedPart f p < infinityOf f := by
  simp only [isFinite, Bool.and_eq_true, Bool.not_eq_true', ← Bool.not_eq_true, isNan_iff, isInf_iff]
  omega

/-! ## A magnitude as a significand and an exponent -/

/-- The unsigned part `a` is made of the exponent `k` and the significand `c`: `c` has its leading bit, but for the
least exponent, and may have carried (R89). -/
structure Scaled (f : Format) (a k c : Nat) : Prop where
  eq : a = k * 2 ^ f.fbits + c
  le : c ≤ 2 ^ (f.fbits + 1)
  normal : k = 0 ∨ 2 ^ f.fbits ≤ c

/-- The exponent, as a power of two times `2 ^ -1074`, of a subnormal's last fraction bit (R89). -/
def unitExp (f : Format) : Nat := 1075 - formatBias f - f.fbits

theorem unitExp_binary32 : unitExp binary32 = 925 := rfl

/-- Every unsigned part is an exponent and a significand without carry. -/
theorem exists_scaled (f : Format) (a : Nat) : ∃ k c, Scaled f a k c ∧ c < 2 ^ (f.fbits + 1) := by
  have hdiv := Nat.div_add_mod' a (2 ^ f.fbits)
  have hmod := Nat.mod_lt a (show 2 ^ f.fbits > 0 by positivity)
  have hp : 2 ^ (f.fbits + 1) = 2 ^ f.fbits * 2 := pow_succ _ _
  cases hexp : a / 2 ^ f.fbits with
  | zero =>
    rw [hexp] at hdiv
    exact ⟨0, a, ⟨by omega, by omega, .inl rfl⟩, by omega⟩
  | succ k =>
    rw [hexp, Nat.succ_mul] at hdiv
    exact ⟨k, 2 ^ f.fbits + a % 2 ^ f.fbits, ⟨by omega, by omega, .inr (by omega)⟩, by omega⟩

/-- The magnitude is the significand at its exponent (R89). -/
theorem Scaled.magnitude_eq {f : Format} {p k c : Nat} (h : Scaled f (unsignedPart f p) k c) :
    magnitude f p = c * 2 ^ (k + unitExp f) := by
  have hpos : 0 < 2 ^ f.fbits := by positivity
  obtain ⟨heq, hle, hnormal⟩ := h
  rw [pow_succ] at hle
  simp only [magnitude, fieldExp_eq_unsignedPart_div, fieldFrac_eq_unsignedPart_mod, heq]
  rw [pow_add, ← Nat.mul_assoc, unitExp, Nat.add_comm (k * _), Nat.add_mul_div_right _ _ hpos,
    Nat.add_mul_mod_self_right]
  rcases Nat.lt_or_ge c (2 ^ f.fbits) with hsmall | hlarge
  · obtain rfl := hnormal.resolve_right (by omega)
    simp [Nat.div_eq_of_lt hsmall, Nat.mod_eq_of_lt hsmall]
  · obtain ⟨x, rfl⟩ := Nat.exists_eq_add_of_le hlarge
    rcases Nat.lt_or_ge x (2 ^ f.fbits) with hfrac | hcarry
    · simp [Nat.add_div_left _ hpos, Nat.div_eq_of_lt hfrac, Nat.mod_eq_of_lt hfrac, Nat.add_comm 1 k]
    · obtain rfl : x = 2 ^ f.fbits := by omega
      rw [Nat.add_div_left _ hpos, Nat.div_self hpos, Nat.add_mod_right, Nat.mod_self, if_neg (by omega),
        show 1 + 1 + k - 1 = k + 1 by omega]
      ring

/-- A larger exponent outweighs the significand. -/
theorem significand_mul_lt {b c d k l : Nat} (hc : c < 2 ^ (b + 1)) (hd : 2 ^ b ≤ d) (hkl : k < l) :
    c * 2 ^ k < d * 2 ^ l := by
  calc c * 2 ^ k < 2 ^ (b + 1) * 2 ^ k := Nat.mul_lt_mul_of_pos_right hc (by positivity)
    _ = 2 ^ b * 2 ^ (k + 1) := by ring
    _ ≤ d * 2 ^ l := Nat.mul_le_mul hd (Nat.pow_le_pow_right (by decide) hkl)

/-- Different unsigned parts have different magnitudes. -/
theorem unsignedPart_eq_of_magnitude_eq {f : Format} {p q : Nat} (h : magnitude f p = magnitude f q) :
    unsignedPart f p = unsignedPart f q := by
  obtain ⟨k, c, hp, hc⟩ := exists_scaled f (unsignedPart f p)
  obtain ⟨l, d, hq, hd⟩ := exists_scaled f (unsignedPart f q)
  rw [hp.magnitude_eq, hq.magnitude_eq] at h
  rcases Nat.lt_trichotomy k l with hkl | rfl | hlk
  · exact absurd h (significand_mul_lt hc (hq.normal.resolve_left (by omega)) (Nat.add_lt_add_right hkl _)).ne
  · rw [hp.eq, hq.eq, Nat.eq_of_mul_eq_mul_right (by positivity) h]
  · exact absurd h (significand_mul_lt hd (hp.normal.resolve_left (by omega)) (Nat.add_lt_add_right hlk _)).ne'

/-- Two patterns of one width with the same value are the same pattern. -/
theorem eq_of_sameValue {f : Format} {p q : Nat} (hp : p < 2 ^ (f.ebits + f.fbits + 1))
    (hq : q < 2 ^ (f.ebits + f.fbits + 1)) (h : SameValue f p f q) : p = q := by
  obtain ⟨hsign, hval⟩ := h
  have hpart : unsignedPart f p = unsignedPart f q := by
    rcases hval with ⟨hinf, hinf'⟩ | ⟨-, -, hmag⟩
    · rw [(isInf_iff f p).mp hinf, (isInf_iff f q).mp hinf']
    · exact unsignedPart_eq_of_magnitude_eq hmag
  rw [← fieldSign_add_unsignedPart hp, ← fieldSign_add_unsignedPart hq, hsign, hpart]

theorem not_isInf_of_isFinite {f : Format} {p : Nat} (h : isFinite f p = true) : isInf f p ≠ true := by
  rw [isFinite_iff] at h
  rw [ne_eq, isInf_iff]
  exact h.ne

theorem SameValue.trans {f g e : Format} {p q r : Nat} (h : SameValue f p g q) (h' : SameValue g q e r) :
    SameValue f p e r := by
  obtain ⟨hsign, ⟨hinf, hinf'⟩ | ⟨hfin, hfin', hmag⟩⟩ := h
  · obtain ⟨hsign', ⟨-, hinf''⟩ | ⟨hfin, -⟩⟩ := h'
    · exact ⟨hsign.trans hsign', .inl ⟨hinf, hinf''⟩⟩
    · exact absurd hinf' (not_isInf_of_isFinite hfin)
  · obtain ⟨hsign', ⟨hinf, -⟩ | ⟨-, hfin'', hmag'⟩⟩ := h'
    · exact absurd hinf (not_isInf_of_isFinite hfin')
    · exact ⟨hsign.trans hsign', .inr ⟨hfin, hfin'', hmag.trans hmag'⟩⟩

/-! ## Rounding to binary32 -/

theorem log2_mul_two_pow {c : Nat} (hc : c ≠ 0) (k : Nat) : Nat.log2 (c * 2 ^ k) = Nat.log2 c + k := by
  induction k with
  | zero => simp
  | succ k ih =>
    rw [pow_succ', Nat.mul_left_comm, Nat.log2_two_mul (Nat.mul_ne_zero hc (by positivity)), ih, Nat.add_assoc]

/-- A significand of 24 bits, all of them used but at the least exponent, ends at the last place. -/
theorem lastPlace32_mul {c L : Nat} (hmin : 925 ≤ L) (hc : c < 2 ^ 24) (hnormal : L = 925 ∨ 2 ^ 23 ≤ c) :
    lastPlace32 (c * 2 ^ L) = L := by
  unfold lastPlace32
  rcases Nat.eq_zero_or_pos c with rfl | hpos
  · rw [Nat.zero_mul, Nat.log2_zero]
    omega
  · rw [log2_mul_two_pow hpos.ne']
    have hupper := (Nat.log2_lt hpos.ne').mpr hc
    rw [← Nat.le_log2 hpos.ne'] at hnormal
    omega

theorem lastPlace32_ge (m : Nat) : 925 ≤ lastPlace32 m := Nat.le_max_right _ _

theorem lt_lastPlace32 (m : Nat) : m < 2 ^ (lastPlace32 m + 24) :=
  Nat.lt_log2_self.trans_le (Nat.pow_le_pow_right (by decide) (by unfold lastPlace32; omega))

theorem lastPlace32_le (m : Nat) : lastPlace32 m = 925 ∨ 2 ^ (lastPlace32 m + 23) ≤ m := by
  rcases Nat.eq_zero_or_pos m with rfl | hpos
  · exact .inl (by simp [lastPlace32])
  · rw [← Nat.le_log2 hpos.ne']
    unfold lastPlace32
    omega

theorem two_pow_le_div_lastPlace32 (m : Nat) : lastPlace32 m = 925 ∨ 2 ^ 23 ≤ m / 2 ^ lastPlace32 m := by
  rw [Nat.le_div_iff_mul_le (by positivity), ← pow_add, Nat.add_comm]
  exact lastPlace32_le m

/-- What lies on the grid is rounded to itself. -/
theorem roundNearestEven_mul (c sh : Nat) : roundNearestEven (c * 2 ^ sh) sh = c := by
  have hpos : 0 < 2 ^ sh := by positivity
  simp [roundNearestEven, hpos]

theorem roundNearestEven_bounds (m sh : Nat) :
    m / 2 ^ sh ≤ roundNearestEven m sh ∧ roundNearestEven m sh ≤ m / 2 ^ sh + 1 := by
  unfold roundNearestEven
  dsimp only
  split
  · omega
  · split <;> omega

/-- Of the numbers that do not lie strictly between the two grid points around `m`, none is nearer to `m` than the
rounded one, and another is as near only where the rounded one is even (R139 (b); decision D7). -/
theorem roundNearestEven_nearest {m sh v : Nat}
    (hv : v ≤ m / 2 ^ sh * 2 ^ sh ∨ (m / 2 ^ sh + 1) * 2 ^ sh ≤ v) :
    distance m (roundNearestEven m sh * 2 ^ sh) ≤ distance m v ∧
      (distance m (roundNearestEven m sh * 2 ^ sh) = distance m v → v ≠ roundNearestEven m sh * 2 ^ sh →
        roundNearestEven m sh % 2 = 0) := by
  have hdiv := Nat.div_add_mod' m (2 ^ sh)
  have hmod := Nat.mod_lt m (show 2 ^ sh > 0 by positivity)
  unfold roundNearestEven distance
  dsimp only
  rw [Nat.add_one_mul] at hv
  split
  case isTrue hbelow => omega
  case isFalse hbelow =>
    split
    case isTrue habove =>
      rw [Nat.add_one_mul]
      omega
    case isFalse habove =>
      rcases Nat.mod_two_eq_zero_or_one (m / 2 ^ sh) with heven | hodd
      · rw [heven, Nat.add_zero]
        omega
      · rw [hodd, Nat.add_one_mul]
        omega

/-- The binary32 pattern nearest to the magnitude `m` has the rounded significand at the last place. -/
theorem scaled_nearest32 (m : Nat) :
    Scaled binary32 (nearest32 m) (lastPlace32 m - 925) (roundNearestEven m (lastPlace32 m)) := by
  have hbounds := roundNearestEven_bounds m (lastPlace32 m)
  have hupper : m / 2 ^ lastPlace32 m < 2 ^ 24 := by
    rw [Nat.div_lt_iff_lt_mul (by positivity), ← pow_add, Nat.add_comm]
    exact lt_lastPlace32 m
  have hlower := two_pow_le_div_lastPlace32 m
  refine ⟨rfl, ?_, ?_⟩ <;> simp only [binary32] <;> omega

/-- A binary32 magnitude is its own nearest (R139 (a)). -/
theorem nearest32_magnitude (p : Nat) : nearest32 (magnitude binary32 p) = unsignedPart binary32 p := by
  obtain ⟨k, c, h, hc⟩ := exists_scaled binary32 (unsignedPart binary32 p)
  have hmag : magnitude binary32 p = c * 2 ^ (k + 925) := h.magnitude_eq
  have hL : lastPlace32 (magnitude binary32 p) = k + 925 := by
    rw [hmag]
    exact lastPlace32_mul (Nat.le_add_left _ _) hc (h.normal.imp_left fun hk => by omega)
  rw [nearest32, hL, hmag, roundNearestEven_mul, h.eq, Nat.add_sub_cancel]
  rfl

/-- The magnitude of the pattern nearest to `m`. -/
theorem magnitude_of_nearest32 {m p : Nat} (h : unsignedPart binary32 p = nearest32 m) :
    magnitude binary32 p = roundNearestEven m (lastPlace32 m) * 2 ^ lastPlace32 m := by
  have hscaled := scaled_nearest32 m
  rw [← h] at hscaled
  rw [hscaled.magnitude_eq, unitExp_binary32, Nat.sub_add_cancel (lastPlace32_ge m)]

/-- No binary32 magnitude lies strictly between the two grid points around `m`. -/
theorem magnitude_not_between (m q : Nat) :
    magnitude binary32 q ≤ m / 2 ^ lastPlace32 m * 2 ^ lastPlace32 m ∨
      (m / 2 ^ lastPlace32 m + 1) * 2 ^ lastPlace32 m ≤ magnitude binary32 q := by
  obtain ⟨k, c, h, hc⟩ := exists_scaled binary32 (unsignedPart binary32 q)
  have hmag : magnitude binary32 q = c * 2 ^ (k + 925) := h.magnitude_eq
  rcases Nat.lt_or_ge (k + 925) (lastPlace32 m) with hfine | hcoarse
  · have hlarge := (two_pow_le_div_lastPlace32 m).resolve_left (by omega)
    rw [hmag]
    exact .inl (significand_mul_lt hc hlarge hfine).le
  · obtain ⟨j, hj⟩ := Nat.exists_eq_add_of_le' hcoarse
    rw [hmag, hj, pow_add, ← Nat.mul_assoc]
    rcases Nat.lt_or_ge (m / 2 ^ lastPlace32 m) (c * 2 ^ j) with hlt | hge
    · exact .inr (Nat.mul_le_mul_right _ hlt)
    · exact .inl (Nat.mul_le_mul_right _ hge)

/-- No binary32 value is nearer to `m` than the pattern nearest to it, and another is as near only where that pattern's
last fraction bit is 0 (R139 (b); decision D7). -/
theorem nearest32_nearest {m p : Nat} (h : unsignedPart binary32 p = nearest32 m) (q : Nat) :
    distance m (magnitude binary32 p) ≤ distance m (magnitude binary32 q) ∧
      (distance m (magnitude binary32 p) = distance m (magnitude binary32 q) →
        magnitude binary32 q ≠ magnitude binary32 p → p % 2 = 0) := by
  have hparity : p % 2 = roundNearestEven m (lastPlace32 m) % 2 := by
    simp only [unsignedPart, nearest32, binary32] at h
    omega
  rw [magnitude_of_nearest32 h, hparity]
  exact roundNearestEven_nearest (magnitude_not_between m q)

/-- Rounding stays below an even grid point exactly below the middle of the last step to it. -/
theorem roundNearestEven_lt_iff {n : Nat} (hn : 0 < n) (m sh : Nat) :
    roundNearestEven m sh < 2 * n ↔ 2 * m < (4 * n - 1) * 2 ^ sh := by
  have hdiv := Nat.div_add_mod' m (2 ^ sh)
  have hmod := Nat.mod_lt m (show 2 ^ sh > 0 by positivity)
  have hbounds := roundNearestEven_bounds m sh
  have hmiddle : (4 * n - 1) * 2 ^ sh = 2 * ((2 * n - 1) * 2 ^ sh) + 2 ^ sh := by
    rw [← Nat.mul_assoc, ← Nat.succ_mul]
    congr 1
    omega
  rcases Nat.lt_trichotomy (m / 2 ^ sh) (2 * n - 1) with hlt | heq | hgt
  · have := Nat.mul_le_mul_right (2 ^ sh) hlt
    rw [Nat.succ_mul] at this
    omega
  · rw [heq] at hdiv
    have hodd : (2 * n - 1) % 2 = 1 := by omega
    unfold roundNearestEven
    dsimp only
    rw [heq, hodd]
    split
    · omega
    · split <;> omega
  · have := Nat.mul_le_mul_right (2 ^ sh) hgt
    rw [Nat.succ_mul] at this
    omega

/-- Rounding stays within the finite binary32 range exactly below the threshold (R139 (c)). -/
theorem nearest32_lt_infinity32_iff (m : Nat) : nearest32 m < infinity32 ↔ m < overflowThreshold := by
  have hround := (scaled_nearest32 m).le
  have hnormal := (scaled_nearest32 m).normal
  have hlt := lt_lastPlace32 m
  have hge := lastPlace32_le m
  -- The exponent of the threshold stays a variable, so that no tactic computes its power.
  obtain ⟨e, he⟩ : ∃ e, 127 - 24 + 1074 = e := ⟨_, rfl⟩
  rw [overflowThreshold, he, nearest32]
  simp only [binary32, infinity32] at hround hnormal ⊢
  rcases Nat.lt_trichotomy (lastPlace32 m) (e + 1) with hfine | hlast | hcoarse
  · have := hlt.trans_le (Nat.pow_le_pow_right (by decide) (show lastPlace32 m + 24 ≤ 24 + e by omega))
    rw [pow_add] at this
    omega
  · have hiff := roundNearestEven_lt_iff (n := 2 ^ 23) (by decide) m (e + 1)
    rw [pow_succ] at hiff
    rw [hlast] at hround ⊢
    omega
  · have := (Nat.pow_le_pow_right (by decide) (show 25 + e ≤ lastPlace32 m + 23 by omega)).trans
      (hge.resolve_left (by omega))
    rw [pow_add] at this
    omega

/-! ## Signed patterns -/

/-- The binary32 pattern of a sign bit and an unsigned part. -/
def signed32 (s a : Nat) : BitVec 32 := BitVec.ofNat 32 (s * 2 ^ 31 + a)

/-- The binary64 pattern of a sign bit and an unsigned part. -/
def signed64 (s a : Nat) : BitVec 64 := BitVec.ofNat 64 (s * 2 ^ 63 + a)

theorem signed32_parts {s a : Nat} (hs : s < 2) (ha : a < 2 ^ 31) :
    fieldSign binary32 (signed32 s a).toNat = s ∧ unsignedPart binary32 (signed32 s a).toNat = a := by
  rw [signed32, BitVec.toNat_ofNat, Nat.mod_eq_of_lt (by omega)]
  exact ⟨fieldSign_signed hs ha, unsignedPart_signed ha⟩

theorem signed64_parts {s a : Nat} (hs : s < 2) (ha : a < 2 ^ 63) :
    fieldSign binary64 (signed64 s a).toNat = s ∧ unsignedPart binary64 (signed64 s a).toNat = a := by
  rw [signed64, BitVec.toNat_ofNat, Nat.mod_eq_of_lt (by omega)]
  exact ⟨fieldSign_signed hs ha, unsignedPart_signed ha⟩

theorem signed32_of_parts (p : BitVec 32) :
    signed32 (fieldSign binary32 p.toNat) (unsignedPart binary32 p.toNat) = p :=
  (congrArg (BitVec.ofNat 32) (fieldSign_add_unsignedPart (f := binary32) p.isLt)).trans (by simp)

/-! ## NaNs -/

/-- Free bits under an all-ones exponent are a NaN, at the latest with the last fraction bit set (R139 (d), R142). -/
theorem isNan_forced {w : Nat} {f : Format} (hf : 0 < f.fbits) (hw : 0 < w) {exps : BitVec w}
    (hexps : exps.extractLsb' f.fbits f.ebits = BitVec.allOnes f.ebits) (bits : BitVec w) :
    isNan f (if isNan f (bits ||| exps).toNat then bits ||| exps else bits ||| exps ||| 1#w).toNat = true := by
  have hexp (b : BitVec w) : fieldExp f (b ||| exps).toNat = formatExpMax f := by
    have h := congrArg BitVec.toNat (BitVec.extractLsb'_or (x := b) (y := exps) (start := f.fbits) (len := f.ebits))
    rwa [hexps, BitVec.or_allOnes, BitVec.extractLsb'_toNat, Nat.shiftRight_eq_div_pow, BitVec.toNat_allOnes] at h
  split
  case isTrue h => exact h
  case isFalse =>
    have hfrac : fieldFrac f (bits ||| exps ||| 1#w).toNat ≠ 0 := by
      intro h
      have hbit := congrArg (Nat.testBit · 0) h
      simp [fieldFrac, hf, hw.ne'] at hbit
    have hexp' : fieldExp f (bits ||| exps ||| 1#w).toNat = formatExpMax f := by
      rw [BitVec.or_assoc, BitVec.or_comm exps, ← BitVec.or_assoc, hexp]
    simp only [isNan, hexp', Bool.and_eq_true, beq_iff_eq, bne_iff_ne]
    exact ⟨trivial, hfrac⟩

theorem isNan_nan32 (bits : BitVec 32) : isNan binary32 (nan32 bits).toNat = true :=
  isNan_forced (by decide) (by decide) (by decide) bits

theorem isNan_nan64 (bits : BitVec 64) : isNan binary64 (nan64 bits).toNat = true :=
  isNan_forced (by decide) (by decide) (by decide) bits

/-! ## What narrowing gives -/

section Narrow

variable {policy : FloatPolicy} {bits : BitVec 32} {x : BitVec 64}

theorem narrow32_of_isNan (h : isNan binary64 x.toNat = true) : narrow32 policy bits x = some (nan32 bits) := by
  simp [narrow32, h]

theorem narrow32_of_isInf (h : isInf binary64 x.toNat = true) :
    narrow32 policy bits x = some (signed32 (fieldSign binary64 x.toNat) infinity32) := by
  have hnan : isNan binary64 x.toNat = false := by
    rw [← Bool.not_eq_true, isNan_iff, (isInf_iff _ _).mp h]
    exact Nat.lt_irrefl _
  simp [narrow32, h, hnan, signed32]

theorem narrow32_of_isFinite (h : isFinite binary64 x.toNat = true) :
    narrow32 policy bits x =
      if magnitude binary64 x.toNat < overflowThreshold then
        some (signed32 (fieldSign binary64 x.toNat) (nearest32 (magnitude binary64 x.toNat)))
      else if policy = .fault then none
      else some (signed32 (fieldSign binary64 x.toNat) infinity32) := by
  simp only [isFinite, Bool.and_eq_true, Bool.not_eq_true'] at h
  obtain ⟨hnan, hinf⟩ := h
  simp only [narrow32, hnan, hinf, Bool.false_eq_true, if_false, nearest32_lt_infinity32_iff, signed32]
  cases policy <;> simp

/-- A value of binary32 is narrowed to itself (R139 (a)). -/
theorem narrow32_of_sameValue {p : BitVec 32} (h : SameValue binary64 x.toNat binary32 p.toNat) :
    narrow32 policy bits x = some p := by
  obtain ⟨hsign, ⟨hinf, hinf'⟩ | ⟨hfin, hfin', hmag⟩⟩ := h
  · rw [narrow32_of_isInf hinf, hsign, ← infinityOf_binary32, ← (isInf_iff _ _).mp hinf', signed32_of_parts]
  · have hbelow : magnitude binary32 p.toNat < overflowThreshold := by
      rw [← nearest32_lt_infinity32_iff, nearest32_magnitude]
      exact (isFinite_iff _ _).mp hfin'
    rw [narrow32_of_isFinite hfin, hmag, if_pos hbelow, hsign, nearest32_magnitude, signed32_of_parts]

end Narrow

/-! ## What widening gives -/

theorem unitExp_binary64 : unitExp binary64 = 0 := rfl

/-- A significand of at most 53 bits above the subnormals' reach is a binary64 magnitude. -/
theorem scaled_pattern64 {c j : Nat} (hc : c < 2 ^ 53) (hj : 52 ≤ j) :
    ∃ k d, Scaled binary64 (pattern64 (c * 2 ^ j)) k d ∧ d * 2 ^ k = c * 2 ^ j ∧ k ≤ j ∧ d < 2 ^ 53 := by
  rcases Nat.eq_zero_or_pos c with rfl | hpos
  · exact ⟨0, 0, ⟨by simp [pattern64], by simp, .inl rfl⟩, by simp, by omega, by simp⟩
  · have hlog : Nat.log2 c < 53 := (Nat.log2_lt hpos.ne').mpr hc
    obtain ⟨i, hi⟩ := Nat.exists_eq_add_of_le (show Nat.log2 c ≤ 52 by omega)
    have hsplit : c * 2 ^ j = c * 2 ^ i * 2 ^ (Nat.log2 c + j - 52) := by
      rw [Nat.mul_assoc, ← pow_add]
      congr 2
      omega
    have hpattern : pattern64 (c * 2 ^ j) = (Nat.log2 c + j - 52) * 2 ^ 52 + c * 2 ^ i := by
      rw [pattern64, if_neg (by positivity), log2_mul_two_pow hpos.ne', hsplit, Nat.mul_div_cancel _ (by positivity)]
    have hrange : Nat.log2 (c * 2 ^ i) = 52 := by rw [log2_mul_two_pow hpos.ne', hi]
    obtain ⟨hlow, hhigh⟩ := (Nat.log2_eq_iff (by positivity)).mp hrange
    exact ⟨_, _, ⟨hpattern, hhigh.le, .inr hlow⟩, hsplit.symm, by omega, hhigh⟩

/-- A finite binary16 or binary32 magnitude is a significand of at most 53 bits far above the binary64 subnormals and
far below the binary64 infinity. -/
theorem exists_magnitude_eq {f : Format} (hf : f = binary16 ∨ f = binary32) {p : Nat} (hp : isFinite f p = true) :
    ∃ c j, magnitude f p = c * 2 ^ j ∧ c < 2 ^ 53 ∧ 52 ≤ j ∧ j < 2000 := by
  obtain ⟨k, c, h, hc⟩ := exists_scaled f (unsignedPart f p)
  have hlt := (isFinite_iff f p).mp hp
  rw [h.eq, infinityOf] at hlt
  refine ⟨c, k + unitExp f, h.magnitude_eq, ?_⟩
  rcases hf with rfl | rfl <;>
  · simp only [binary16, binary32, unitExp, formatBias, formatExpMax] at hc hlt ⊢
    omega

/-- Widening keeps the value of every pattern that is no NaN (R142). -/
theorem widen64_sameValue {f : Format} (hf : f = binary16 ∨ f = binary32) (bits : BitVec 64) {p : Nat}
    (hnan : isNan f p = false) : SameValue f p binary64 (widen64 f bits p).toNat := by
  cases hinf : isInf f p with
  | true =>
    have hwiden : widen64 f bits p = signed64 (fieldSign f p) infinity64 := by simp [widen64, hnan, hinf, signed64]
    obtain ⟨hsign, hpart⟩ := signed64_parts (fieldSign_lt f p) (show infinity64 < 2 ^ 63 by decide)
    rw [hwiden]
    exact ⟨hsign.symm, .inl ⟨hinf, (isInf_iff _ _).mpr hpart⟩⟩
  | false =>
    have hfin : isFinite f p = true := by simp [isFinite, hnan, hinf]
    obtain ⟨c, j, hmag, hc, hmin, hmax⟩ := exists_magnitude_eq hf hfin
    obtain ⟨k, d, hscaled, hvalue, hk, hd⟩ := scaled_pattern64 hc hmin
    have hwiden : widen64 f bits p = signed64 (fieldSign f p) (pattern64 (c * 2 ^ j)) := by
      simp [widen64, hnan, hinf, signed64, hmag]
    have hbelow : pattern64 (c * 2 ^ j) < infinity64 := by
      rw [hscaled.eq]
      simp only [binary64, infinity64]
      omega
    obtain ⟨hsign, hpart⟩ := signed64_parts (fieldSign_lt f p) (hbelow.trans (show infinity64 < 2 ^ 63 by decide))
    rw [hwiden]
    refine ⟨hsign.symm, .inr ⟨hfin, (isFinite_iff _ _).mpr (hpart.trans_lt hbelow), ?_⟩⟩
    rw [← hpart] at hscaled
    rw [hscaled.magnitude_eq, unitExp_binary64, Nat.add_zero, hvalue, hmag]

/-- Widening gives back the binary64 pattern of the same value (R143). -/
theorem widen64_of_sameValue {x : BitVec 64} {p : Nat} (hnan : isNan binary32 p = false)
    (h : SameValue binary64 x.toNat binary32 p) (bits : BitVec 64) : widen64 binary32 bits p = x :=
  BitVec.eq_of_toNat_eq <|
    (eq_of_sameValue (f := binary64) x.isLt (BitVec.isLt _) (h.trans (widen64_sameValue (.inr rfl) bits hnan))).symm

theorem widen64_of_isNan {f : Format} {bits : BitVec 64} {p : Nat} (h : isNan f p = true) :
    widen64 f bits p = nan64 bits := by
  simp [widen64, h]

end Sys2Proof.Machine

/-! PROOF. The Primitive Codec (spec/41_primitive_codec.md). What each operation answers on its operands, an equation
per case, and what the instruction then reports; from these the statements about unsigned numbers, floats and
booleans. -/

namespace Sys2Proof.Machine

/-! ## What an operation reports, by its outcome -/

theorem SameButResults.args {s t : State} (h : SameButResults s t) : t.args = s.args :=
  (congrArg State.args (show t = _ from h) :)

theorem completeBytes_reports (s : State) {r : Except SubCause Bytes} {b : Bytes} (h : r = .ok b) :
    Reports (s.completeBytes r) .ok ∧ SameButResults s (s.completeBytes r) ∧
      (s.completeBytes r).res.outBuf = b := by
  subst h
  exact ⟨complete_reports s _ _, complete_sameButResults s _ _, rfl⟩

theorem completeBytes_failsWith (s : State) {r : Except SubCause Bytes} {c : SubCause} (h : r = .error c) :
    FailsWith s (s.completeBytes r) (.encodingError c) := by
  subst h
  exact raise_failsWith s _

theorem completeValue_reports (s : State) {r : Except SubCause (BitVec 64)} {v : BitVec 64} (h : r = .ok v) :
    Reports (s.completeValue r) .ok ∧ SameButResults s (s.completeValue r) ∧
      (s.completeValue r).res.value = v := by
  subst h
  exact ⟨complete_reports s _ _, complete_sameButResults s _ _, rfl⟩

theorem completeValue_failsWith (s : State) {r : Except SubCause (BitVec 64)} {c : SubCause} (h : r = .error c) :
    FailsWith s (s.completeValue r) (.encodingError c) := by
  subst h
  exact raise_failsWith s _

/-! ## Legal widths -/

theorem encFloatWidth_iff (w : Nat) : encFloatWidth w = true ↔ w ∈ [4, 8] := by simp [encFloatWidth]

theorem decFloatWidth_iff (w : Nat) : decFloatWidth w = true ↔ w ∈ [2, 4, 8] := by simp [decFloatWidth, or_assoc]

section Unsupported

variable {w : Nat}

theorem encodeUint_unsupported (hw : w ∉ [2, 4]) (policy : UintPolicy) (v : Nat) :
    encodeUint policy v w = .error .unsupportedWidth := by
  rw [← uintWidth_iff, Bool.not_eq_true] at hw
  simp [encodeUint, hw]

theorem decodeUint_unsupported (hw : w ∉ [2, 4]) (b : Bytes) : decodeUint b w = .error .unsupportedWidth := by
  rw [← uintWidth_iff, Bool.not_eq_true] at hw
  simp [decodeUint, hw]

theorem encodeFloat_unsupported (hw : w ∉ [4, 8]) (policy : FloatPolicy) (bits : BitVec 32) (x : BitVec 64) :
    encodeFloat policy bits x w = .error .unsupportedWidth := by
  rw [← encFloatWidth_iff, Bool.not_eq_true] at hw
  simp [encodeFloat, hw]

theorem decodeFloat_unsupported (hw : w ∉ [2, 4, 8]) (bits : BitVec 64) (b : Bytes) :
    decodeFloat bits b w = .error .unsupportedWidth := by
  rw [← decFloatWidth_iff, Bool.not_eq_true] at hw
  simp [decodeFloat, hw]

end Unsupported

/-! ## The codec of an unsigned number -/

theorem decodeUint_sliceLength {b : Bytes} {w : Nat} (hw : w ∈ [2, 4]) (h : b.length ≠ w) :
    decodeUint b w = .error .sliceLength := by
  simp [decodeUint, (uintWidth_iff w).mpr hw, h]

theorem decodeUint_ok {b : Bytes} {w : Nat} (hw : w ∈ [2, 4]) (h : b.length = w) :
    decodeUint b w = .ok (BitVec.ofNat 64 (leValue b)) := by
  simp [decodeUint, (uintWidth_iff w).mpr hw, h]

/-- A value of up to eight bytes fits the port. -/
theorem toNat_ofNat_leValue {b : Bytes} (h : b.length ≤ 8) : (BitVec.ofNat 64 (leValue b)).toNat = leValue b :=
  Nat.mod_eq_of_lt ((leValue_lt b).trans_le (Nat.pow_le_pow_right (by decide) h))

theorem decodeUint_leBytes {v : BitVec 64} {w : Nat} (hw : w ∈ [2, 4]) (hv : v.toNat < 256 ^ w) :
    decodeUint (leBytes w v.toNat) w = .ok v := by
  rw [decodeUint_ok hw (leBytes_length _ _), leValue_leBytes_of_lt hv, BitVec.ofNat_toNat, BitVec.setWidth_eq]

theorem encodeUint_leValue {b : Bytes} {w : Nat} (hw : w ∈ [2, 4]) (hb : b.length = w) (policy : UintPolicy) :
    encodeUint policy (leValue b) w = .ok b := by
  rw [encodeUint_ok hw (.inl (hb ▸ leValue_lt b)), ← hb, leBytes_leValue]

/-! ## The codec of a float -/

theorem encodeFloat_eight (policy : FloatPolicy) (bits : BitVec 32) (x : BitVec 64) :
    encodeFloat policy bits x 8 = .ok (leBytes 8 x.toNat) := rfl

theorem encodeFloat_four_of_some {policy : FloatPolicy} {bits : BitVec 32} {x : BitVec 64} {p : BitVec 32}
    (h : narrow32 policy bits x = some p) : encodeFloat policy bits x 4 = .ok (leBytes 4 p.toNat) := by
  simp [encodeFloat, encFloatWidth, h]

theorem encodeFloat_four_of_none {policy : FloatPolicy} {bits : BitVec 32} {x : BitVec 64}
    (h : narrow32 policy bits x = none) : encodeFloat policy bits x 4 = .error .valueOutOfRange := by
  simp [encodeFloat, encFloatWidth, h]

theorem decodeFloat_sliceLength {b : Bytes} {w : Nat} (hw : w ∈ [2, 4, 8]) (h : b.length ≠ w) (bits : BitVec 64) :
    decodeFloat bits b w = .error .sliceLength := by
  simp [decodeFloat, (decFloatWidth_iff w).mpr hw, h]

theorem decodeFloat_two (bits : BitVec 64) (p : BitVec 16) :
    decodeFloat bits (leBytes 2 p.toNat) 2 = .ok (widen64 binary16 bits p.toNat) := by
  have hvalue : leValue (leBytes 2 p.toNat) = p.toNat := leValue_leBytes_of_lt p.isLt
  simp [decodeFloat, decFloatWidth, hvalue]

theorem decodeFloat_four (bits : BitVec 64) (p : BitVec 32) :
    decodeFloat bits (leBytes 4 p.toNat) 4 = .ok (widen64 binary32 bits p.toNat) := by
  have hvalue : leValue (leBytes 4 p.toNat) = p.toNat := leValue_leBytes_of_lt p.isLt
  simp [decodeFloat, decFloatWidth, hvalue]

theorem decodeFloat_eight (bits p : BitVec 64) : decodeFloat bits (leBytes 8 p.toNat) 8 = .ok p := by
  have hvalue : leValue (leBytes 8 p.toNat) = p.toNat := leValue_leBytes_of_lt p.isLt
  simp [decodeFloat, decFloatWidth, hvalue]

/-! ## The instructions -/

section Instructions

variable {s : State}

theorem exec_encUint_ok {b : Bytes}
    (h : encodeUint s.cfg.uintOverflow s.args.value.toNat s.args.width = .ok b) :
    ∃ t, exec .encUint s = .next t ∧ Reports t .ok ∧ SameButResults s t ∧ t.res.outBuf = b :=
  ⟨_, rfl, completeBytes_reports s h⟩

theorem exec_decUint_ok {v : BitVec 64} (h : decodeUint s.args.inBuf s.args.width = .ok v) :
    ∃ t, exec .decUint s = .next t ∧ Reports t .ok ∧ SameButResults s t ∧ t.res.value = v :=
  ⟨_, rfl, completeValue_reports s h⟩

theorem exec_encFloat_ok {b : Bytes}
    (h : encodeFloat s.cfg.f32Overflow (Config.freeNan32 s.draws 0) s.args.value s.args.width = .ok b) :
    ∃ t, exec .encFloat s = .next t ∧ Reports t .ok ∧ SameButResults s t ∧ t.res.outBuf = b :=
  ⟨_, rfl, completeBytes_reports s h⟩

/-- ENC_FLOAT at width 8 reports the pattern's bytes. -/
theorem exec_encFloat_eight (hw : s.args.width = 8) :
    ∃ t, exec .encFloat s = .next t ∧ Reports t .ok ∧ SameButResults s t ∧
      t.res.outBuf = leBytes 8 s.args.value.toNat :=
  exec_encFloat_ok (by rw [hw, encodeFloat_eight])

/-- ENC_FLOAT at width 4 reports the narrowed pattern's bytes. -/
theorem exec_encFloat_four {p : BitVec 32} (hw : s.args.width = 4)
    (h : narrow32 s.cfg.f32Overflow (Config.freeNan32 s.draws 0) s.args.value = some p) :
    ∃ t, exec .encFloat s = .next t ∧ Reports t .ok ∧ SameButResults s t ∧ t.res.outBuf = leBytes 4 p.toNat :=
  exec_encFloat_ok (by rw [hw, encodeFloat_four_of_some h])

theorem exec_decFloat_ok {v : BitVec 64}
    (h : decodeFloat (Config.freeNan64 s.draws 0) s.args.inBuf s.args.width = .ok v) :
    ∃ t, exec .decFloat s = .next t ∧ Reports t .ok ∧ SameButResults s t ∧ t.res.value = v :=
  ⟨_, rfl, completeValue_reports s h⟩

theorem exec_decFloat_two {p : BitVec 16} (hw : s.args.width = 2) (hbuf : s.args.inBuf = leBytes 2 p.toNat) :
    ∃ t, exec .decFloat s = .next t ∧ Reports t .ok ∧ SameButResults s t ∧
      t.res.value = widen64 binary16 (Config.freeNan64 s.draws 0) p.toNat :=
  exec_decFloat_ok (by rw [hw, hbuf, decodeFloat_two])

theorem exec_decFloat_four {p : BitVec 32} (hw : s.args.width = 4) (hbuf : s.args.inBuf = leBytes 4 p.toNat) :
    ∃ t, exec .decFloat s = .next t ∧ Reports t .ok ∧ SameButResults s t ∧
      t.res.value = widen64 binary32 (Config.freeNan64 s.draws 0) p.toNat :=
  exec_decFloat_ok (by rw [hw, hbuf, decodeFloat_four])

theorem exec_decFloat_eight {p : BitVec 64} (hw : s.args.width = 8) (hbuf : s.args.inBuf = leBytes 8 p.toNat) :
    ∃ t, exec .decFloat s = .next t ∧ Reports t .ok ∧ SameButResults s t ∧ t.res.value = p :=
  exec_decFloat_ok (by rw [hw, hbuf, decodeFloat_eight])

end Instructions

/-! ## The obligations -/

/-- Settles O19: the width is tested before all else. -/
theorem unsupportedWidthIsRefused : Obligations.UnsupportedWidthIsRefused := fun s =>
  ⟨fun hw => ⟨⟨_, rfl, completeBytes_failsWith s (encodeUint_unsupported hw _ _)⟩,
      _, rfl, completeValue_failsWith s (decodeUint_unsupported hw _)⟩,
    fun hw => ⟨_, rfl, completeBytes_failsWith s (encodeFloat_unsupported hw _ _ _)⟩,
    fun hw => ⟨_, rfl, completeValue_failsWith s (decodeFloat_unsupported hw _ _)⟩⟩

/-- Settles O30: the tests of the length and of the byte. -/
theorem decBoolIsFalseIffZero : Obligations.DecBoolIsFalseIffZero := by
  intro s
  constructor
  · intro b hb
    have hdecode : (decodeBool s.args.inBuf).map boolValue = .ok (boolValue (b != 0x00)) := by rw [hb]; rfl
    obtain ⟨hreports, hsame, hvalue⟩ := completeValue_reports s hdecode
    refine ⟨_, rfl, hreports, hsame, fun hzero => ?_, fun hnonzero => ?_⟩
    · rw [hvalue, hzero]
      rfl
    · rw [hvalue, bne_iff_ne.mpr hnonzero]
      rfl
  · intro hlength
    have hdecode : (decodeBool s.args.inBuf).map boolValue = .error .sliceLength := by
      simp [decodeBool, hlength, Except.map]
    exact ⟨_, rfl, completeValue_failsWith s hdecode⟩

/-- Settles O21: the two tests, then the sum assembled from the bytes. -/
theorem decUintSumsBytes : Obligations.DecUintSumsBytes := by
  intro s
  refine ⟨fun hw => ⟨_, rfl, completeValue_failsWith s (decodeUint_unsupported hw _)⟩,
    fun hw hlength => ⟨_, rfl, completeValue_failsWith s (decodeUint_sliceLength hw hlength)⟩,
    fun b0 b1 hw hbuf => ?_, fun b0 b1 b2 b3 hw hbuf => ?_⟩ <;>
  · obtain ⟨t, ht, hreports, hsame, hvalue⟩ :=
      exec_decUint_ok (decodeUint_ok (b := s.args.inBuf) (w := s.args.width) (by simp [hw]) (by simp [hw, hbuf]))
    refine ⟨t, ht, hreports, hsame, ?_⟩
    rw [hvalue, toNat_ofNat_leValue (by simp [hbuf]), hbuf]
    simp only [leValue_cons, leValue_nil]
    omega

/-- Settles O22: the codecs of an unsigned number undo each other. -/
theorem uintRoundTrips : Obligations.UintRoundTrips := by
  intro s hw
  constructor
  · intro hfits
    obtain ⟨t, ht, -, hsame, hbytes⟩ := exec_encUint_ok (encodeUint_ok hw (.inl hfits))
    have hdecode : decodeUint (t.setInBuf t.res.outBuf).args.inBuf (t.setInBuf t.res.outBuf).args.width =
        .ok s.args.value := by
      simp only [setInBuf_args, hsame.args, hbytes, decodeUint_leBytes hw hfits]
    obtain ⟨u, hu, hreports, -, hvalue⟩ := exec_decUint_ok hdecode
    exact ⟨t, u, ht, hu, hreports, hvalue⟩
  · intro hlength
    obtain ⟨t, ht, -, hsame, hvalue⟩ := exec_decUint_ok (decodeUint_ok hw hlength)
    have hsmall : s.args.inBuf.length ≤ 8 := by
      simp at hw
      omega
    have hencode : encodeUint t.cfg.uintOverflow t.res.value.toNat t.args.width = .ok s.args.inBuf := by
      rw [hvalue, toNat_ofNat_leValue hsmall, hsame.args, encodeUint_leValue hw hlength]
    obtain ⟨u, hu, hreports, -, hbytes⟩ :=
      exec_encUint_ok (s := t.setArgs { t.args with value := t.res.value }) hencode
    exact ⟨t, u, ht, hu, hreports, hbytes⟩

/-- Settles O23: at width 8 the pattern's bytes are laid out. -/
theorem encFloatWidthEightKeepsPattern : Obligations.EncFloatWidthEightKeepsPattern := by
  intro s hw
  obtain ⟨t, ht, hreports, hsame, hbytes⟩ := exec_encFloat_eight hw
  refine ⟨t, ht, hreports, hsame, ?_⟩
  rw [hbytes]
  exact ⟨leBytes_length _ _, leBytes_getElem? _ _⟩

/-- Settles O24: a value of binary32 is narrowed to itself. -/
theorem encFloatRepresentableIsExact : Obligations.EncFloatRepresentableIsExact := fun _ _ hw _ hvalue =>
  exec_encFloat_four hw (narrow32_of_sameValue hvalue)

/-- Settles O25: no binary32 magnitude lies between the grid points around the operand's, and of all others none is
nearer than the rounded one. -/
theorem encFloatRoundsToNearestEven : Obligations.EncFloatRoundsToNearestEven := by
  intro s hw hfin hbelow
  have hinf := (nearest32_lt_infinity32_iff _).mpr hbelow
  obtain ⟨t, ht, hreports, hsame, hbytes⟩ :=
    exec_encFloat_four hw ((narrow32_of_isFinite hfin).trans (if_pos hbelow))
  obtain ⟨hsign, hpart⟩ := signed32_parts (fieldSign_lt binary64 s.args.value.toNat)
    (hinf.trans (show infinity32 < 2 ^ 31 by decide))
  refine ⟨t, _, ht, hreports, hsame, hbytes, (isFinite_iff _ _).mpr (hpart.trans_lt hinf), hsign,
    fun q _ => nearest32_nearest hpart q.toNat⟩

/-- Settles O26: from the threshold on, narrowing does as the policy says. -/
theorem encFloatOverflowFollowsPolicy : Obligations.EncFloatOverflowFollowsPolicy := by
  intro s hw hfin hover
  have hnarrow : narrow32 s.cfg.f32Overflow (Config.freeNan32 s.draws 0) s.args.value = _ := narrow32_of_isFinite hfin
  rw [if_neg (Nat.not_lt_of_le hover)] at hnarrow
  constructor
  · intro hpolicy
    rw [if_pos hpolicy] at hnarrow
    refine ⟨_, rfl, completeBytes_failsWith s ?_⟩
    rw [hw]
    exact encodeFloat_four_of_none hnarrow
  · intro hpolicy
    rw [if_neg (by simp [hpolicy])] at hnarrow
    obtain ⟨t, ht, hreports, hsame, hbytes⟩ := exec_encFloat_four hw hnarrow
    obtain ⟨hsign, hpart⟩ := signed32_parts (fieldSign_lt binary64 s.args.value.toNat)
      (show infinity32 < 2 ^ 31 by decide)
    exact ⟨t, _, ht, hreports, hsame, hbytes, (isInf_iff _ _).mpr hpart, hsign⟩

/-- Settles O27: a NaN is narrowed and widened to one made of free bits. -/
theorem nanStaysNan : Obligations.NanStaysNan := by
  intro s
  refine ⟨fun hw hnan => ?narrow, fun p hw hbuf hnan => ?widen32, fun p hw hbuf hnan => ?widen16⟩
  case narrow =>
    obtain ⟨t, ht, hreports, hsame, hbytes⟩ := exec_encFloat_four hw (narrow32_of_isNan hnan)
    exact ⟨t, _, ht, hreports, hsame, hbytes, isNan_nan32 _⟩
  case widen32 =>
    obtain ⟨t, ht, hreports, hsame, hvalue⟩ := exec_decFloat_four hw hbuf
    exact ⟨t, ht, hreports, hsame, by rw [hvalue, widen64_of_isNan hnan, isNan_nan64]⟩
  case widen16 =>
    obtain ⟨t, ht, hreports, hsame, hvalue⟩ := exec_decFloat_two hw hbuf
    exact ⟨t, ht, hreports, hsame, by rw [hvalue, widen64_of_isNan hnan, isNan_nan64]⟩

/-- Settles O28: the length test, the two exact widenings, and the pattern itself at width 8. -/
theorem decFloatIsExact : Obligations.DecFloatIsExact := by
  intro s
  refine ⟨fun hw hlength => ⟨_, rfl, completeValue_failsWith s (decodeFloat_sliceLength hw hlength _)⟩,
    fun p hw hbuf hnan => ?_, fun p hw hbuf hnan => ?_,
    fun p hw hbuf => exec_decFloat_eight hw hbuf⟩
  · obtain ⟨t, ht, hreports, hsame, hvalue⟩ := exec_decFloat_two hw hbuf
    exact ⟨t, ht, hreports, hsame, hvalue ▸ widen64_sameValue (.inl rfl) _ hnan⟩
  · obtain ⟨t, ht, hreports, hsame, hvalue⟩ := exec_decFloat_four hw hbuf
    exact ⟨t, ht, hreports, hsame, hvalue ▸ widen64_sameValue (.inr rfl) _ hnan⟩

/-- Settles O29: what narrowing to width 4 keeps, widening gives back; at width 8 the pattern passes through. -/
theorem floatRoundTrips : Obligations.FloatRoundTrips := by
  intro s hcase
  rcases hcase with hw | ⟨hw, p, hnan, hvalue⟩
  · obtain ⟨t, ht, -, hsame, hbytes⟩ := exec_encFloat_eight hw
    obtain ⟨u, hu, hreports, -, hback⟩ := exec_decFloat_eight (s := t.setInBuf t.res.outBuf)
      ((congrArg Operands.width hsame.args).trans hw) hbytes
    exact ⟨t, u, ht, hu, hreports, hback⟩
  · obtain ⟨t, ht, -, hsame, hbytes⟩ := exec_encFloat_four hw (narrow32_of_sameValue hvalue)
    obtain ⟨u, hu, hreports, -, hback⟩ := exec_decFloat_four (s := t.setInBuf t.res.outBuf)
      ((congrArg Operands.width hsame.args).trans hw) hbytes
    exact ⟨t, u, ht, hu, hreports, hback.trans (widen64_of_sameValue hnan hvalue _)⟩

end Sys2Proof.Machine

/-! PROOF. SERIALIZE. What the encode of one field of a fixed layout can do (it succeeds, or its value overflows and it
is refused), and what that makes of the concatenation; from these the statement about SERIALIZE. -/

namespace Sys2Proof.Machine

/-! ## Narrowing in a configuration -/

/-- Only a NaN is made of the free bits. -/
theorem narrow32_bits_irrel {x : BitVec 64} (h : isNan binary64 x.toNat = false) (policy : FloatPolicy)
    (bits bits' : BitVec 32) : narrow32 policy bits x = narrow32 policy bits' x := by
  simp [narrow32, h]

/-! ## A field of one byte -/

/-- A byte is laid out where the value fits or may be cut (R238). -/
theorem encodeOneByte_ok {policy : UintPolicy} {v : Nat} (h : v < 256 ∨ policy = .truncate) :
    encodeOneByte policy v = .ok (leBytes 1 v) := by
  unfold encodeOneByte
  split
  case isTrue => rfl
  case isFalse hlarge => rw [h.resolve_left hlarge]

/-- A value that does not fit and may not be cut is refused (R238). -/
theorem encodeOneByte_refused {v : Nat} (h : 256 ≤ v) : encodeOneByte .fault v = .error .valueOutOfRange := by
  simp [encodeOneByte, Nat.not_lt_of_le h]

section Fields

variable {s : State} {x : BitVec 64}

/-- What narrowing gives, whatever the free bits, is what ENC_FLOAT at width 4 makes of the value. -/
theorem narrows_of_narrow32 {bits : BitVec 32} {p : BitVec 32} (h : narrow32 s.cfg.f32Overflow bits x = some p) :
    Narrows s x p := by
  cases hnan : isNan binary64 x.toNat with
  | true =>
    rw [narrow32_of_isNan hnan, Option.some.injEq] at h
    exact .inl ⟨hnan, h ▸ isNan_nan32 bits⟩
  | false =>
    rw [narrow32_bits_irrel hnan _ _ (Config.freeNan32 s.draws 0)] at h
    obtain ⟨u, hu, hreports, -, hbytes⟩ :=
      exec_encFloat_four (s := s.setArgs { s.args with value := x, width := 4 }) rfl h
    exact .inr ⟨hnan, u, hu, hreports, hbytes⟩

theorem narrow32_of_floatOverflows (h : FloatOverflows s x) (bits : BitVec 32) :
    narrow32 s.cfg.f32Overflow bits x = none := by
  obtain ⟨hfin, hover, hpolicy⟩ := h
  rw [narrow32_of_isFinite hfin, if_neg (Nat.not_lt_of_le hover), if_pos hpolicy]

theorem exists_narrow32 (h : ¬FloatOverflows s x) (bits : BitVec 32) :
    ∃ p, narrow32 s.cfg.f32Overflow bits x = some p := by
  cases hnan : isNan binary64 x.toNat with
  | true => exact ⟨_, narrow32_of_isNan hnan⟩
  | false =>
    cases hinf : isInf binary64 x.toNat with
    | true => exact ⟨_, narrow32_of_isInf hinf⟩
    | false =>
      have hfin : isFinite binary64 x.toNat = true := by simp [isFinite, hnan, hinf]
      rw [narrow32_of_isFinite hfin]
      split
      case isTrue => exact ⟨_, rfl⟩
      case isFalse hover => exact ⟨_, if_neg fun hpolicy => h ⟨hfin, Nat.le_of_not_lt hover, hpolicy⟩⟩

/-! ## One field -/

/-- The types that occur in the fixed layouts (R232 to R234). -/
def fieldTypes : List RegType := [.uint 1, .uint 2, .uint 4, .float 4, .bool]

theorem layout_subset_fieldTypes (m : MeterType) (id : SetId) : ∀ ty ∈ layout m id, ty ∈ fieldTypes := by
  cases m <;> cases id <;> decide

variable (n i : Nat)

/-- An unsigned field that does not overflow is its low bytes (R132, R238). -/
theorem encodeField_uint {w : Nat} (hw : w ∈ [1, 2, 4]) (h : ¬UintOverflows s x w) :
    encodeField s.cfg n i ⟨.uint w, x⟩ = .ok (leBytes w x.toNat) := by
  have hfits : x.toNat < 256 ^ w ∨ s.cfg.uintOverflow = .truncate := by
    rcases Nat.lt_or_ge x.toNat (256 ^ w) with hlt | hge
    · exact .inl hlt
    · cases hpolicy : s.cfg.uintOverflow with
      | fault => exact absurd ⟨hge, hpolicy⟩ h
      | truncate => exact .inr rfl
  rcases List.mem_cons.mp hw with rfl | hw
  · exact encodeOneByte_ok hfits
  · have hne : w ≠ 1 := by
      rintro rfl
      simp at hw
    simp only [encodeField, hne, if_false, encodeUint_ok hw hfits]

/-- An unsigned field that overflows is refused (R132, R238). -/
theorem encodeField_uint_refused {w : Nat} (hw : w ∈ [1, 2, 4]) (h : UintOverflows s x w) :
    encodeField s.cfg n i ⟨.uint w, x⟩ = .error .valueOutOfRange := by
  obtain ⟨hlarge, hpolicy⟩ := h
  rcases List.mem_cons.mp hw with rfl | hw
  · simp only [encodeField, if_true, hpolicy, encodeOneByte_refused hlarge]
  · have hne : w ≠ 1 := by
      rintro rfl
      simp at hw
    simp only [encodeField, hne, if_false, hpolicy, encodeUint_refused hw hlarge]

/-- A float field that does not overflow is what ENC_FLOAT makes of its value (R137). -/
theorem encodeField_float (h : ¬FloatOverflows s x) :
    ∃ p, encodeField s.cfg n i ⟨.float 4, x⟩ = .ok (leBytes 4 p.toNat) ∧ Narrows s x p := by
  obtain ⟨p, hp⟩ := exists_narrow32 h (Config.freeNan32 n i)
  exact ⟨p, encodeFloat_four_of_some hp, narrows_of_narrow32 hp⟩

theorem regOverflows_uint (w : Nat) : RegOverflows s ⟨.uint w, x⟩ ↔ UintOverflows s x w := Iff.rfl

theorem regOverflows_float (w : Nat) : RegOverflows s ⟨.float w, x⟩ ↔ FloatOverflows s x := Iff.rfl

/-- A field whose value overflows is refused (R132, R139). -/
theorem encodeField_of_overflows {r : Reg} (hty : r.ty ∈ fieldTypes) (h : RegOverflows s r) :
    encodeField s.cfg n i r = .error .valueOutOfRange := by
  obtain ⟨ty, v⟩ := r
  cases ty with
  | uint w => exact encodeField_uint_refused n i (by simpa [fieldTypes] using hty) h
  | float w =>
    obtain rfl : w = 4 := by simpa [fieldTypes] using hty
    exact encodeFloat_four_of_none (narrow32_of_floatOverflows h _)
  | bool => exact h.elim

/-- Any other field is encoded. -/
theorem exists_encodeField {r : Reg} (hty : r.ty ∈ fieldTypes) (h : ¬RegOverflows s r) :
    ∃ b, encodeField s.cfg n i r = .ok b := by
  obtain ⟨ty, v⟩ := r
  cases ty with
  | uint w => exact ⟨_, encodeField_uint n i (by simpa [fieldTypes] using hty) h⟩
  | float w =>
    obtain rfl : w = 4 := by simpa [fieldTypes] using hty
    obtain ⟨p, hp, -⟩ := encodeField_float n i h
    exact ⟨_, hp⟩
  | bool => exact ⟨_, rfl⟩

/-! ## The concatenation -/

theorem serializeFrom_nil (cfg : Config) : serializeFrom cfg n i [] = .ok ([] : List Bytes).flatten := rfl

theorem serializeFrom_cons {cfg : Config} {r : Reg} {rest : RegSet} {b : Bytes} {bs : List Bytes}
    (hr : encodeField cfg n i r = .ok b) (hrest : serializeFrom cfg n (i + 1) rest = .ok bs.flatten) :
    serializeFrom cfg n i (r :: rest) = .ok (b :: bs).flatten := by
  simp [serializeFrom, hr, hrest]

/-- One overflowing field is the failure of the whole: no field fails otherwise (R235). -/
theorem serializeFrom_of_overflows {regs : RegSet} (hty : ∀ r ∈ regs, r.ty ∈ fieldTypes)
    (h : ∃ r ∈ regs, RegOverflows s r) : serializeFrom s.cfg n i regs = .error .valueOutOfRange := by
  induction regs generalizing i with
  | nil => simp at h
  | cons r rest ih =>
    rw [List.forall_mem_cons] at hty
    obtain ⟨hr, hrest⟩ := hty
    by_cases hover : RegOverflows s r
    · simp [serializeFrom, encodeField_of_overflows n i hr hover]
    · obtain ⟨b, hb⟩ := exists_encodeField n i hr hover
      simp [serializeFrom, hb, ih (i + 1) hrest (by simpa [hover] using h)]

end Fields

/-! ## The test-configuration set -/

/-- A register set is determined by its types and its values. -/
theorem regSet_eq_zipWith (regs : RegSet) : regs = List.zipWith Reg.mk (regs.map Reg.ty) (regs.map Reg.value) := by
  simp [List.zipWith_map, List.zipWith_self]

/-- Layout sees a value up to its width. -/
theorem leBytes_mod (w v : Nat) : leBytes w (v % 256 ^ w) = leBytes w v := by
  have h := leBytes_leValue (leBytes w v)
  rwa [leBytes_length, leValue_leBytes] at h

theorem leBytes_one (x : BitVec 64) : leBytes 1 x.toNat = [x.setWidth 8] := by
  simp [leBytes_succ]

theorem leBytes_two (x : BitVec 64) : leBytes 2 x.toNat = [x.setWidth 8, (x >>> 8).setWidth 8] := by
  simp [leBytes_succ, ← BitVec.toNat_inj, Nat.shiftRight_eq_div_pow]

theorem leBytes_four_setWidth (x : BitVec 64) : leBytes 4 (x.setWidth 32).toNat = leBytes 4 x.toNat := by
  rw [BitVec.toNat_setWidth]
  exact leBytes_mod 4 x.toNat

section Meter

variable {s : State} {x : BitVec 64} {ty : RegType}

/-- The type of the meter-constant field in the configuration of `s` (decision D35). -/
def IsMeterType (s : State) (ty : RegType) : Prop :=
  (s.cfg.meterType = .unsigned ∧ ty = .uint 4) ∨ (s.cfg.meterType = .float ∧ ty = .float 4)

theorem testConfig_types (hlayout : SetsKeepLayout s) :
    ∃ ty, IsMeterType s ty ∧ s.testConfig.map Reg.ty =
      [.uint 1, .uint 1, .uint 1, .float 4, .float 4, .float 4, .uint 1, .float 4, ty, .uint 2] := by
  have htypes := hlayout .testConfig
  cases hmeter : s.cfg.meterType with
  | unsigned =>
    rw [hmeter] at htypes
    exact ⟨_, .inl ⟨hmeter, rfl⟩, htypes⟩
  | float =>
    rw [hmeter] at htypes
    exact ⟨_, .inr ⟨hmeter, rfl⟩, htypes⟩

/-- The meter-constant is four bytes of either type (R232; decision D35). -/
theorem encodeField_meter (n i : Nat) (hty : IsMeterType s ty) (h : ¬RegOverflows s ⟨ty, x⟩) :
    ∃ p : BitVec 32, encodeField s.cfg n i ⟨ty, x⟩ = .ok (leBytes 4 p.toNat) ∧
      (s.cfg.meterType = .unsigned → p = x.setWidth 32) ∧ (s.cfg.meterType = .float → Narrows s x p) := by
  rcases hty with ⟨hmeter, rfl⟩ | ⟨hmeter, rfl⟩
  · refine ⟨x.setWidth 32, ?_, fun _ => rfl, by simp [hmeter]⟩
    rw [leBytes_four_setWidth]
    exact encodeField_uint n i (by decide) h
  · obtain ⟨p, hp, hnarrows⟩ := encodeField_float n i h
    exact ⟨p, hp, by simp [hmeter], fun _ => hnarrows⟩

end Meter

/-- Settles O57: the ten fields are encoded in order; one that overflows is the failure of the whole. -/
theorem testConfigSerializesInOrder : Obligations.TestConfigSerializesInOrder := by
  intro s hlayout
  constructor
  · intro ps es vr voltage current factor unit frequency meter cycle hvalues hfits
    obtain ⟨ty, hmeter, htypes⟩ := testConfig_types hlayout
    have hregs := regSet_eq_zipWith s.testConfig
    rw [hvalues, htypes] at hregs
    rw [hregs] at hfits
    simp only [List.zipWith, List.forall_mem_cons, regOverflows_uint, regOverflows_float] at hfits hregs
    obtain ⟨hps, hes, hvr, hvoltage, hcurrent, hfactor, hunit, hfrequency, hmeterfits, hcycle, -⟩ := hfits
    obtain ⟨pv, hpv, hnv⟩ := encodeField_float s.draws 3 hvoltage
    obtain ⟨pc, hpc, hnc⟩ := encodeField_float s.draws 4 hcurrent
    obtain ⟨pf, hpf, hnf⟩ := encodeField_float s.draws 5 hfactor
    obtain ⟨pq, hpq, hnq⟩ := encodeField_float s.draws 7 hfrequency
    obtain ⟨pm, hpm, hunsigned, hfloat⟩ := encodeField_meter s.draws 8 hmeter hmeterfits
    have hserial : serializeFrom s.cfg s.draws 0 s.testConfig = .ok
        [leBytes 1 ps.toNat, leBytes 1 es.toNat, leBytes 1 vr.toNat, leBytes 4 pv.toNat, leBytes 4 pc.toNat,
          leBytes 4 pf.toNat, leBytes 1 unit.toNat, leBytes 4 pq.toNat, leBytes 4 pm.toNat,
          leBytes 2 cycle.toNat].flatten := by
      rw [hregs]
      exact serializeFrom_cons _ _ (encodeField_uint _ _ (by decide) hps) <|
        serializeFrom_cons _ _ (encodeField_uint _ _ (by decide) hes) <|
        serializeFrom_cons _ _ (encodeField_uint _ _ (by decide) hvr) <|
        serializeFrom_cons _ _ hpv <| serializeFrom_cons _ _ hpc <| serializeFrom_cons _ _ hpf <|
        serializeFrom_cons _ _ (encodeField_uint _ _ (by decide) hunit) <|
        serializeFrom_cons _ _ hpq <| serializeFrom_cons _ _ hpm <|
        serializeFrom_cons _ _ (encodeField_uint _ _ (by decide) hcycle) <| serializeFrom_nil _ _ _
    obtain ⟨hreports, hsame, hbytes⟩ := completeBytes_reports s hserial
    refine ⟨_, pv, pc, pf, pq, pm, rfl, hreports, hsame, hbytes.trans ?_, ?_, hnv, hnc, hnf, hnq, hunsigned, hfloat⟩
    · simp [leBytes_one, leBytes_two]
    · exact (congrArg List.length hbytes).trans (by simp)
  · intro set r hr hover
    have hty : ∀ r ∈ s.regSet set, r.ty ∈ fieldTypes := fun r hr =>
      layout_subset_fieldTypes s.cfg.meterType set r.ty (hlayout set ▸ List.mem_map_of_mem hr)
    exact ⟨_, rfl, completeBytes_failsWith s (serializeFrom_of_overflows s.draws 0 hty ⟨r, hr, hover⟩)⟩

end Sys2Proof.Machine

/-! PROOF. The decoder's tests of markers and length, over every buffer. What each test decides, said once, with the
length field as any four bytes; from these, and from what FRAME_DEC finds in a frame laid out around a body, the
statements about the first failing test, the CRC test, FRAME_ENC's own frames and changed length bytes. -/

namespace Sys2Proof.Machine

/-! ## Bytes of a buffer, and pairs -/

theorem byteAt_zero_of_head? {buf : Bytes} {b : Byte} (h : buf.head? = some b) : byteAt buf 0 = b := by
  rw [byteAt, List.getD, ← List.head?_eq_getElem?, h, Option.getD_some]

theorem byteAt_last_of_getLast? {buf : Bytes} {b : Byte} (h : buf.getLast? = some b) :
    byteAt buf (buf.length - 1) = b := by
  rw [byteAt, List.getD, ← List.getLast?_eq_getElem?, h, Option.getD_some]

theorem length_ne_zero_of_head? {buf : Bytes} {b : Byte} (h : buf.head? = some b) : buf.length ≠ 0 :=
  (List.length_pos_of_mem (List.mem_of_head? h)).ne'

theorem set_ne_self_of_getElem?_ne {buf : Bytes} {i : Nat} {b : Byte} (hi : i < buf.length) (h : buf[i]? ≠ some b) :
    buf.set i b ≠ buf := by
  intro hsame
  have hat : (buf.set i b)[i]? = some b := List.getElem?_set_self hi
  exact h (hsame ▸ hat)

/-- Different bytes of one length assemble to different values (R53). -/
theorem leValue_injective {a b : Bytes} (hlen : a.length = b.length) (h : leValue a = leValue b) : a = b := by
  rw [← leBytes_leValue a, ← leBytes_leValue b, hlen, h]

/-- The value of a length field of four bytes, as R53 sums it. -/
theorem leValue_four (b1 b2 b3 b4 : Byte) :
    leValue [b1, b2, b3, b4] = b1.toNat + b2.toNat * 256 + b3.toNat * 256 ^ 2 + b4.toNat * 256 ^ 3 := by
  simp only [leValue_cons, leValue_nil]
  omega

theorem crcPair_eq_mk_iff {c : CrcPair} {high low : Byte} : c = ⟨high, low⟩ ↔ low = c.low ∧ high = c.high := by
  constructor
  · rintro rfl
    exact ⟨rfl, rfl⟩
  · rintro ⟨rfl, rfl⟩
    rfl

/-! ## The tests of markers and length -/

/-- Wrong markers are refused before any test of length (R168, R176). -/
theorem framingStatus_of_badMarkers {buf : Bytes} {first last : Byte} (hfirst : buf.head? = some first)
    (hlast : buf.getLast? = some last) (hbad : first ≠ soi ∨ last ≠ eoi) :
    framingStatus buf = .frameInvalidMarkers := by
  rw [framingStatus, if_neg (length_ne_zero_of_head? hfirst), byteAt_zero_of_head? hfirst,
    byteAt_last_of_getLast? hlast, if_pos hbad]

/-- With good markers, the tests of length are left, and each of them fails with the same status (R169, R171, R172). -/
theorem framingStatus_of_goodMarkers {buf : Bytes} (hfirst : buf.head? = some soi)
    (hlast : buf.getLast? = some eoi) :
    framingStatus buf =
      if 5 ≤ buf.length ∧ declaredLen buf + 3 = buf.length - 5 ∧ 3 ≤ declaredLen buf then .ok
      else .frameLengthMismatch := by
  rw [framingStatus, if_neg (length_ne_zero_of_head? hfirst), byteAt_zero_of_head? hfirst,
    byteAt_last_of_getLast? hlast, if_neg (by simp)]
  by_cases hshort : buf.length < 5
  · rw [if_pos hshort, if_neg (by omega)]
  rw [if_neg hshort]
  by_cases hlen : declaredLen buf + 3 = buf.length - 5
  · rw [if_neg (not_not.mpr hlen), ← ite_not]
    exact if_congr (by omega) rfl rfl
  · rw [if_pos hlen, if_neg (by omega)]

section LengthField

variable {field rest : Bytes} (hfield : field.length = 4)
include hfield

/-- The declared length is the value of the four bytes after the marker (R170). -/
theorem declaredLen_lengthField : declaredLen (soi :: (field ++ rest)) = leValue field := by
  have hslice := slice_append [soi] field rest
  rw [hfield] at hslice
  exact congrArg leValue hslice

/-- Steps 5 and 6, with the length field's value and the number of bytes after the field (R171, R172). -/
theorem framingStatus_lengthField (hlast : (soi :: (field ++ rest)).getLast? = some eoi) :
    framingStatus (soi :: (field ++ rest)) =
      if leValue field + 3 = rest.length ∧ 3 ≤ leValue field then .ok else .frameLengthMismatch := by
  have hlen : (soi :: (field ++ rest)).length = rest.length + 5 := by
    simp [hfield]
    omega
  rw [framingStatus_of_goodMarkers rfl hlast, declaredLen_lengthField hfield, hlen]
  simp

/-- A changed length field of a buffer whose length test passes fails that test: it assembles to another
value (R171). -/
theorem framingStatus_changedLengthField {field' : Bytes} (hlast : (soi :: (field ++ rest)).getLast? = some eoi)
    (htest : leValue field + 3 = rest.length) (hfield' : field'.length = field.length) (hne : field' ≠ field) :
    framingStatus (soi :: (field' ++ rest)) = .frameLengthMismatch := by
  have hrest : rest ≠ [] := by
    rintro rfl
    simp at htest
  have hlast' : (soi :: (field' ++ rest)).getLast? = some eoi := by
    rwa [← List.cons_append, List.getLast?_append_of_ne_nil _ hrest] at hlast ⊢
  have hvalue : leValue field' ≠ leValue field := fun h => hne (leValue_injective hfield' h)
  rw [framingStatus_lengthField (hfield'.trans hfield) hlast', if_neg (by omega)]

end LengthField

/-! ## What FRAME_DEC answers -/

/-- A failing test of markers or length decides the status, whatever the CRC (R176). -/
theorem frameStatus_of_framingStatus {buf : Bytes} (cfg : Config) (h : framingStatus buf ≠ .ok) :
    frameStatus cfg buf = framingStatus buf := if_pos h

/-- Past those tests only the CRC can fail (R174). -/
theorem frameStatus_of_framingStatus_ok {buf : Bytes} (cfg : Config) (h : framingStatus buf = .ok) :
    frameStatus cfg buf = .ok ∨ frameStatus cfg buf = .frameCrcMismatch := by
  rw [frameStatus, if_neg (not_not.mpr h)]
  split
  · exact .inr rfl
  · exact .inl rfl

theorem exec_frameDec (s : State) : exec .frameDec s = .next s.frameDec := rfl

theorem frameDec_reports_of_framingStatus {s : State} {st : Status} (h : framingStatus s.args.inBuf = st)
    (hbad : st ≠ .ok) : Reports s.frameDec st := by
  subst h
  exact frameStatus_of_framingStatus s.cfg hbad ▸ frameDec_reports s

/-- A failing test of markers or length is FRAME_DEC's answer, and it does nothing else (R177). -/
theorem exec_frameDec_of_framingStatus {s : State} {st : Status} (h : framingStatus s.args.inBuf = st)
    (hbad : st ≠ .ok) : ∃ t, exec .frameDec s = .next t ∧ Reports t st ∧ SameButResultsCrcPos s t :=
  ⟨_, exec_frameDec s, frameDec_reports_of_framingStatus h hbad, frameDec_sameButResultsCrcPos s⟩

/-- A buffer that passes the tests of length is not reported as a `LengthMismatch`. -/
theorem frameDec_not_reports_lengthMismatch {s : State} (h : framingStatus s.args.inBuf = .ok) :
    ¬Reports s.frameDec .frameLengthMismatch := by
  rintro ⟨hmismatch, -⟩
  obtain ⟨hcode, -⟩ := frameDec_reports s
  rw [hmismatch] at hcode
  rcases frameStatus_of_framingStatus_ok s.cfg h with hst | hst <;> rw [hst] at hcode <;> exact absurd hcode (by decide)

/-- What FRAME_DEC leaves of a response body's frame that passes: the fields as found (R173, R175). -/
theorem frameDec_res_of_rawFrame {s : State} {opLow opHigh err : Byte} {payload : Bytes} {c : CrcPair}
    (hfits : (responseBody opLow opHigh err payload).length < 256 ^ 4)
    (hbuf : s.args.inBuf = rawFrame (responseBody opLow opHigh err payload) c)
    (hstatus : frameStatus s.cfg s.args.inBuf = .ok) :
    s.frameDec.res = completed s.draws .ok
      { opcode := some (opHigh ++ opLow), errCode := some err, outBuf := some payload, crcLow := some c.low,
        crcHigh := some c.high } := by
  rw [frameDec_res, hstatus, if_pos rfl, hbuf, rawFrame_frameFields _ _ _ _ _ hfits]

/-! ## The obligations -/

/-- Settles O33: each clause is one test that fails, and the first failing test is the status. -/
theorem frameDecReportsFirstFailure : Obligations.FrameDecReportsFirstFailure := by
  intro s
  refine ⟨fun hempty => ?_, fun first last hfirst hlast => ⟨fun hbad => ?_, ?_⟩,
    fun b1 b2 b3 b4 rest hbuf hlast hbad => ?_⟩
  · exact exec_frameDec_of_framingStatus (hempty ▸ rfl) (by decide)
  · exact exec_frameDec_of_framingStatus (framingStatus_of_badMarkers hfirst hlast hbad) (by decide)
  · rintro rfl rfl hshort
    have hstatus := framingStatus_of_goodMarkers hfirst hlast
    rw [if_neg (by omega)] at hstatus
    exact exec_frameDec_of_framingStatus hstatus (by decide)
  · rw [← leValue_four] at hbad
    have hstatus := framingStatus_lengthField (field := [b1, b2, b3, b4]) rfl (hbuf ▸ hlast)
    rw [if_neg (by omega)] at hstatus
    exact exec_frameDec_of_framingStatus (hbuf ▸ hstatus) (by decide)

/-- Settles O34: the buffer is a frame around a response body with the received pair, so only the CRC test is left. -/
theorem frameDecChecksCrcAndReturnsFields : Obligations.FrameDecChecksCrcAndReturnsFields := by
  intro s opLow opHigh err lo hi payload hfits hbuf
  replace hbuf : s.args.inBuf = rawFrame (responseBody opLow opHigh err payload) ⟨hi, lo⟩ := hbuf
  have hlong : 3 ≤ (responseBody opLow opHigh err payload).length := Nat.le_add_left 3 payload.length
  have hstatus := rawFrame_frameStatus ⟨hi, lo⟩ hlong hfits s.cfg
  obtain ⟨u, hu, hlow, hhigh⟩ := exec_crc16_reports s (responseBody opLow opHigh err payload)
  have hpair : crc16 s.cfg (responseBody opLow opHigh err payload) = ⟨hi, lo⟩ ↔
      lo = u.res.crcLow ∧ hi = u.res.crcHigh := by
    rw [hlow, hhigh]
    exact crcPair_eq_mk_iff
  rw [← hbuf] at hstatus
  have hreports := frameDec_reports s
  refine ⟨u, hu, fun hstrict hdiffers => ?_, fun hpasses => ?_⟩
  · rw [if_pos ⟨hstrict, fun h => not_and_or.mpr hdiffers (hpair.mp h)⟩] at hstatus
    exact ⟨_, exec_frameDec s, hstatus ▸ hreports, frameDec_sameButResultsCrcPos s⟩
  · have hno : ¬(s.cfg.crcStrict = true ∧
        crc16 s.cfg (responseBody opLow opHigh err payload) ≠ ⟨hi, lo⟩) := by
      rintro ⟨hstrict, hne⟩
      exact hne (hpair.mpr (hpasses.resolve_left (by simp [hstrict])))
    rw [if_neg hno] at hstatus
    have hpos := frameDec_pos s
    rw [hbuf, rawFrame_frameCursor _ hlong hfits, ← rawFrame_length _ ⟨hi, lo⟩, ← hbuf] at hpos
    refine ⟨_, exec_frameDec s, hstatus ▸ hreports, frameDec_sameButResultsCrcPos s, ?_⟩
    rw [frameDec_res_of_rawFrame hfits hbuf hstatus]
    exact ⟨rfl, rfl, rfl, rfl, rfl, hpos⟩

/-- Settles O36: the frame's body is the opcode's low byte, `0x00` and the payload. With a payload it is a response body
of high opcode byte `0x00`, whose error code is the payload's first byte; without one it is too short. -/
theorem frameDecOfFrameEnc : Obligations.FrameDecOfFrameEnc := by
  intro s hfits
  obtain ⟨-, -, hcfg, -⟩ := frameEnc_keeps s
  have hbound : s.args.inBuf.length ≤ 2 ^ 32 - 3 := hfits.trans (min_le_right _ _)
  have hout : s.frameEnc.res.outBuf = frameAround s.cfg (commandBody (lowByte s.args.opcode) s.args.inBuf) := by
    rw [frameEnc_of_fits hfits]
    rfl
  refine ⟨_, _, exec_frameEnc s, exec_frameDec _, fun hempty => ?_, fun b rest hpayload => ?_⟩
  · rw [hempty] at hout
    refine frameDec_reports_of_framingStatus ?_ (by decide)
    rw [setInBuf_args, hout]
    exact rawFrame_framingStatus _ _ (show 2 < 256 ^ 4 by decide)
  · have hbody : commandBody (lowByte s.args.opcode) s.args.inBuf =
        responseBody (lowByte s.args.opcode) 0x00 b rest := by
      rw [hpayload]
      rfl
    have hlen : s.args.inBuf.length = rest.length + 1 := congrArg List.length hpayload
    have hbodyLen : (responseBody (lowByte s.args.opcode) 0x00 b rest).length = rest.length + 3 := rfl
    rw [hbody] at hout
    have hstatus := frameAround_frameStatus (body := responseBody (lowByte s.args.opcode) 0x00 b rest) (by omega)
      (by omega) s.cfg
    rw [← hout, ← hcfg] at hstatus
    have hres := frameDec_res_of_rawFrame (s := s.frameEnc.setInBuf s.frameEnc.res.outBuf) (by omega) hout hstatus
    refine ⟨hstatus ▸ frameDec_reports (s.frameEnc.setInBuf s.frameEnc.res.outBuf), ?_⟩
    rw [hres, ← lowByte_eq_extractLsb']
    exact ⟨(BitVec.setWidth_eq_append (by decide)).symm, rfl, rfl⟩

/-- Settles O37: steps 5 and 6 on the four length bytes, and on any other four in their place. -/
theorem changedLengthByteIsRefused : Obligations.ChangedLengthByteIsRefused := by
  intro s b1 b2 b3 b4 rest declared hbuf hlast hdeclared
  rw [← leValue_four] at hdeclared
  have hlast' : (soi :: ([b1, b2, b3, b4] ++ rest)).getLast? = some eoi := hbuf ▸ hlast
  have hstatus := framingStatus_lengthField (field := [b1, b2, b3, b4]) rfl hlast'
  rw [← hdeclared] at hstatus
  have hlen : s.args.inBuf.length = rest.length + 5 := congrArg List.length hbuf
  refine ⟨fun hdiffers => ?_, fun htest => ⟨fun hlong => ?_, by omega, fun j b hj hj' hchanged => ?_⟩⟩
  · rw [if_neg (by omega)] at hstatus
    exact ⟨_, exec_frameDec s, frameDec_reports_of_framingStatus (hbuf ▸ hstatus) (by decide)⟩
  · rw [if_pos ⟨htest, hlong⟩] at hstatus
    exact ⟨_, exec_frameDec s, frameDec_not_reports_lengthMismatch (hbuf ▸ hstatus)⟩
  · obtain ⟨i, rfl⟩ := Nat.exists_eq_add_of_le' hj
    have hi : i < [b1, b2, b3, b4].length := hj'
    have hset : s.args.inBuf.set (i + 1) b = soi :: ([b1, b2, b3, b4].set i b ++ rest) := by
      rw [hbuf, ← List.set_append_left _ _ hi]
      rfl
    have hat : s.args.inBuf[i + 1]? = [b1, b2, b3, b4][i]? := by
      rw [hbuf, ← List.getElem?_append_left hi]
      rfl
    have hne := set_ne_self_of_getElem?_ne hi (hat ▸ hchanged)
    have hrefused := framingStatus_changedLengthField rfl hlast' (hdeclared ▸ htest) List.length_set hne
    rw [hset]
    exact ⟨_, exec_frameDec _, frameDec_reports_of_framingStatus hrefused (by decide)⟩

end Sys2Proof.Machine

/-! PROOF. The Serial Transaction Engine (spec/43_transaction.md). What TXN_POLL and RD_STEP do where their guards are
known, beside what stands above; then runs under an order of events (R212): each step of a run moves the block as one
instruction may, so a pending transaction stays pending, and received bytes stay in `acc`, until the step that the two
progress statements speak of. -/

namespace Sys2Proof.Machine

/-! ## TXN_POLL idle and late -/

/-- R201: no poll without a pending transaction. -/
theorem execTxnPoll_of_idle {s : State} (hidle : s.eng.busy = false) : execTxnPoll s = .next s := by
  simpa [hidle] using execTxnPoll_cases s

/-- Of the four outcomes of a poll only that of R203 goes from Reading to TimedOut. -/
theorem latest_and_deadline_of_timedOut {s t : State} (hpoll : execTxnPoll s = .next t)
    (hreading : s.eng.txnState = .reading) (htimedOut : t.eng.txnState = .timedOut) :
    s.eng.latest = [] ∧ s.eng.timeoutLatched ≤ s.env.now - s.eng.t0 := by
  rcases execTxnPoll_cases s with ⟨-, hc⟩ | ⟨-, -, hc⟩ | ⟨-, hdata, hdue, -⟩ | ⟨-, -, -, hc⟩
  · cases hc.symm.trans hpoll
    exact nomatch hreading.symm.trans htimedOut
  · cases hc.symm.trans hpoll
    exact nomatch htimedOut
  · exact ⟨hdata, hdue⟩
  · cases hc.symm.trans hpoll
    exact nomatch hreading.symm.trans htimedOut

/-- Once the deadline has passed, a poll ends the transaction, with data or without (R202, R203). -/
theorem execTxnPoll_of_late {s : State} (hbusy : s.eng.busy = true)
    (hdue : s.eng.timeoutLatched ≤ s.env.now - s.eng.t0) :
    ∃ t, execTxnPoll s = .next t ∧ t.eng.busy = false ∧ (t.eng.txnState = .dataReady ∨ t.eng.txnState = .timedOut) := by
  by_cases hdata : s.eng.latest = []
  · exact ⟨s.timeOut, execTxnPoll_of_due hbusy hdata hdue, rfl, .inr rfl⟩
  · exact ⟨s.takeLatest, execTxnPoll_of_data hbusy hdata, rfl, .inl rfl⟩

/-! ## RD_STEP with its guards known -/

/-- Asked for all that is pending, or for as much as one read returns, the port returns as much as it can (R193; log
entry 29). -/
theorem readCount_of_ge {cfg : Config} {pending : Bytes} {k : Nat} (hc : 1 ≤ cfg.rxChunkMax)
    (h : pending.length ≤ k ∨ cfg.rxChunkMax ≤ k) : readCount cfg pending k = min pending.length cfg.rxChunkMax := by
  simp only [readCount]
  omega

/-- Asked for nothing, the port returns one byte (R193; log entry 29). -/
theorem readCount_of_zero {cfg : Config} {pending : Bytes} {k : Nat} (hp : pending ≠ []) (hk : k = 0) :
    readCount cfg pending k = 1 := by
  have := List.length_pos_iff.mpr hp
  simp only [readCount]
  omega

/-- The bytes read are as many as the count says. -/
theorem portRead_length {cfg : Config} {pending : Bytes} {k : Nat} (h : readCount cfg pending k ≤ pending.length) :
    (portRead cfg pending k).1.length = readCount cfg pending k :=
  List.length_take_of_le h

theorem overflows_of_bound {s : State} {r : Bytes} {m : Nat} (hm : s.cfg.rxBufMax = some m)
    (hlong : m < s.eng.acc.length + r.length) : overflows s r = true := by
  simp [overflows, hm, hlong]

theorem overflows_of_fits {s : State} {r : Bytes}
    (hfits : ∀ m, s.cfg.rxBufMax = some m → s.eng.acc.length + r.length ≤ m) : overflows s r = false := by
  unfold overflows
  cases hm : s.cfg.rxBufMax with
  | none => rfl
  | some m => simpa using hfits m hm

theorem readerEnabled_of_started {s : State} (hstarted : s.eng.started = true) (hfault : s.eng.rxFault = false) :
    readerEnabled s = true := by
  simp [readerEnabled, hstarted, hfault]

theorem readerEnabled_of_stopped {s : State} (h : s.eng.started = false ∨ s.eng.rxFault = true) :
    readerEnabled s = false := by
  rcases h with h | h <;> simp [readerEnabled, h]

section Reader

variable {s : State} {k : Nat}

/-- R196: no read before START or after an overflow. -/
theorem execRdStep_of_disabled (h : readerEnabled s = false) : execRdStep k s = .next s := by
  simpa [h] using execRdStep_cases k s

/-- R198, with nothing accumulated. -/
theorem execRdStep_of_empty (h : readerEnabled s = true) (hp : s.env.rxPending = []) (ha : s.eng.acc = []) :
    execRdStep k s = .next s := by
  simpa [h, hp, ha] using execRdStep_cases k s

/-- R198, publishing. -/
theorem execRdStep_of_silence (h : readerEnabled s = true) (hp : s.env.rxPending = []) (ha : s.eng.acc ≠ []) :
    execRdStep k s = .next (s.setEng { s.eng with latest := s.eng.acc, acc := [] }) := by
  simpa [h, hp, ha] using execRdStep_cases k s

/-- R197. -/
theorem execRdStep_of_fits (h : readerEnabled s = true) (hp : s.env.rxPending ≠ [])
    (hfits : overflows s (portRead s.cfg s.env.rxPending k).1 = false) :
    execRdStep k s = .next
      ((s.setEnv { s.env with rxPending := (portRead s.cfg s.env.rxPending k).2 }).setEng
        { s.eng with acc := s.eng.acc ++ (portRead s.cfg s.env.rxPending k).1 }) := by
  simpa [h, hp, hfits] using execRdStep_cases k s

/-- R199. -/
theorem execRdStep_of_overflow (h : readerEnabled s = true) (hp : s.env.rxPending ≠ [])
    (hover : overflows s (portRead s.cfg s.env.rxPending k).1 = true) :
    execRdStep k s = .next
      (((s.setEnv { s.env with rxPending := (portRead s.cfg s.env.rxPending k).2 }).setEng
        { s.eng with rxFault := true, acc := Config.freeAcc s.draws }).draw) := by
  simpa [h, hp, hover] using execRdStep_cases k s

end Reader

/-! ## What one move does to a pending transaction and to an enabled reader -/

/-- A pending transaction stays pending, with the times latched for it, or it ends by data, by timeout or by RESET (R32,
R202, R203, R292). -/
theorem EngineMove.pending_or_ended {i : Instr} {s : State} {e : Engine} (h : EngineMove i s e)
    (hbusy : s.eng.busy = true) :
    (e.busy = true ∧ e.t0 = s.eng.t0 ∧ e.timeoutLatched = s.eng.timeoutLatched) ∨
    (e.busy = false ∧ (e.txnState = .dataReady ∨ e.txnState = .timedOut ∨ i = .reset)) := by
  cases h with
  | stays | starts | publishes | appends | faults => exact .inl ⟨hbusy, rfl, rfl⟩
  | accepts _ _ hfree => exact nomatch hfree.symm.trans hbusy
  | takes => exact .inr ⟨rfl, .inl rfl⟩
  | timesOut => exact .inr ⟨rfl, .inr (.inl rfl)⟩
  | resets hi => exact .inr ⟨rfl, .inr (.inr hi)⟩

/-- An enabled reader goes on with all that it has accumulated, or publishes it, or is stopped by an overflow or by
RESET (R197 to R199, R291). -/
theorem Moves.reads_on_or_publishes_or_stops {i : Instr} {s t : State} (h : Moves i s t)
    (henabled : readerEnabled s = true) :
    (readerEnabled t = true ∧ s.eng.acc <+: t.eng.acc) ∨
    ((t.eng.latest = s.eng.acc ∧ t.eng.acc = []) ∨ readerEnabled t = false) := by
  have hfault : s.eng.rxFault = false := readerEnabled_rxFault henabled
  unfold readerEnabled at *
  generalize t.eng = e, h.eng = move
  cases move with
  | stays | accepts | takes | timesOut => exact .inl ⟨henabled, List.prefix_rfl⟩
  | starts => exact .inl ⟨by simp [hfault], List.prefix_rfl⟩
  | appends => exact .inl ⟨henabled, List.prefix_append _ _⟩
  | publishes => exact .inr (.inl ⟨rfl, rfl⟩)
  | faults => exact .inr (.inr (by simp))
  | resets => exact .inr (.inr rfl)

/-! ## Runs under an order of events -/

@[simp] theorem continueExchange_eng (t : State) : (continueExchange t).eng = t.eng := by
  rcases continueExchange_cases t with ⟨-, -, -, hc⟩ | ⟨-, -, -, hc⟩ | ⟨-, hc⟩ <;> rw [hc] <;> rfl

/-- Supplying the next event changes nothing of the block. -/
theorem sameBlock_supplied (s : State) (e : Event) : SameBlock s (s.supplied e) := by
  unfold State.supplied
  split
  · exact sameBlock_setSchedule s _
  · exact SameBlock.refl s

/-- What holds first and, while it holds, either goes on to hold or gives way to `Q`, gives way to `Q` if it does not
hold for ever. -/
theorem exists_gives_way {P Q : Nat → Prop} {n : Nat} (hfirst : P n)
    (hnext : ∀ m, n ≤ m → P m → P (m + 1) ∨ Q m) (hends : ¬∀ j, n ≤ j → P j) :
    ∃ m, n ≤ m ∧ (∀ j, n ≤ j → j ≤ m → P j) ∧ Q m := by
  by_contra hnever
  have hall : ∀ m, n ≤ m → ∀ j, n ≤ j → j ≤ m → P j := by
    intro m hm
    induction m, hm using Nat.le_induction with
    | base => exact fun j hj hj' => le_antisymm hj hj' ▸ hfirst
    | succ m hm ih =>
      intro j hj hj'
      rcases Nat.le_succ_iff.mp hj' with hle | rfl
      · exact ih j hj hle
      · exact (hnext m hm (ih m hm (le_refl m))).resolve_right fun hq => hnever ⟨m, hm, ih, hq⟩
  exact hends fun j hj => hall j hj j hj (le_refl j)

namespace Follows

variable {order : Nat → Event} {run : Nat → State}

/-- Each step of a run moves the block as some instruction may, and if that is RESET the step runs RESET. A write of the
host, which runs no instruction, leaves the block as a poll may that finds nothing to do. -/
theorem moves (h : Follows order run) (m : Nat) :
    ∃ i u, SameBlock (run m) u ∧ Moves i u (run (m + 1)) ∧ (i = .reset → Takes order run m .reset) := by
  have hsupplied : SameBlock (run m) ((run m).supplied (order m)) := sameBlock_supplied _ _
  rcases step_next (h m) with hhost | ⟨i, u, v, hrun, hexec, ht⟩
  · exact ⟨.txnPoll, run m, SameBlock.refl _, (hsupplied.trans (sameBlock_of_fetch (.inl hhost))).moves, nofun⟩
  · exact ⟨i, u, hsupplied.trans (sameBlock_of_fetch (.inr ⟨i, hrun⟩)), ht ▸ (exec_moves hexec).settled,
      fun hi => ⟨u, hi ▸ hrun⟩⟩

/-- The instruction a step runs, from a block no different, leaves the engine the step leaves. -/
theorem of_takes (h : Follows order run) {m : Nat} {i : Instr} (htakes : Takes order run m i) :
    ∃ u v, SameBlock (run m) u ∧ exec i u = .next v ∧ (run (m + 1)).eng = v.eng := by
  obtain ⟨u, hrun⟩ := htakes
  have hsame : SameBlock (run m) u := (sameBlock_supplied _ _).trans (sameBlock_of_fetch (.inr ⟨i, hrun⟩))
  rcases step_next (h m) with hhost | ⟨j, u', v, hrun', hexec, ht⟩
  · exact nomatch hrun.symm.trans hhost
  · cases hrun.symm.trans hrun'
    exact ⟨u, v, hsame, hexec, by rw [ht, continueExchange_eng]⟩

/-- `now` is non-decreasing (R35). -/
theorem now_monotone (h : Follows order run) : Monotone fun m => (run m).env.now := by
  refine monotone_nat_of_le_succ fun m => ?_
  obtain ⟨i, u, hsame, hmoves, -⟩ := h.moves m
  rw [← hsame.env]
  exact hmoves.now

end Follows

/-! ## A pending transaction ends -/

/-- The transaction pending in `s` is still pending in `t`: the guard is set, and the times are those latched. -/
def StillPending (s t : State) : Prop :=
  t.eng.busy = true ∧ t.eng.t0 = s.eng.t0 ∧ t.eng.timeoutLatched = s.eng.timeoutLatched

/-- The step after `run m` ends a transaction, by data, by timeout or by RESET. -/
def EndsTransaction (order : Nat → Event) (run : Nat → State) (m : Nat) : Prop :=
  (run (m + 1)).eng.busy = false ∧
    ((run (m + 1)).eng.txnState = .dataReady ∨ (run (m + 1)).eng.txnState = .timedOut ∨ Takes order run m .reset)

namespace Follows

variable {order : Nat → Event} {run : Nat → State} {n : Nat}

theorem stillPending_or_ends (h : Follows order run) {s : State} {m : Nat} (hpending : StillPending s (run m)) :
    StillPending s (run (m + 1)) ∨ EndsTransaction order run m := by
  obtain ⟨hbusy, ht0, htimeout⟩ := hpending
  obtain ⟨i, u, hsame, hmoves, hreset⟩ := h.moves m
  rw [← hsame.eng] at hbusy ht0 htimeout
  rcases hmoves.eng.pending_or_ended hbusy with ⟨hbusy', ht0', htimeout'⟩ | ⟨hidle, hhow⟩
  · exact .inl ⟨hbusy', ht0'.trans ht0, htimeout'.trans htimeout⟩
  · exact .inr ⟨hidle, hhow.imp_right (Or.imp_right hreset)⟩

/-- A poll past the deadline leaves no transaction pending. -/
theorem idle_of_late_poll (h : Follows order run) {m : Nat} (htakes : Takes order run m .txnPoll)
    (hbusy : (run m).eng.busy = true) (hdue : (run m).eng.timeoutLatched ≤ (run m).env.now - (run m).eng.t0) :
    (run (m + 1)).eng.busy = false := by
  obtain ⟨u, v, hsame, hexec, heng⟩ := h.of_takes htakes
  rw [← hsame.eng] at hbusy hdue
  rw [← hsame.env] at hdue
  obtain ⟨t, hpoll, hidle, -⟩ := execTxnPoll_of_late hbusy hdue
  cases hpoll.symm.trans hexec
  rw [heng, hidle]

/-- No transaction is pending for ever: once `now` has passed the latched deadline, the next poll taken ends it. -/
theorem not_pending_forever (h : Follows order run) (hpolls : PollsAreTaken order run) (htime : TimeIsUnbounded run) :
    ¬∀ j, n ≤ j → StillPending (run n) (run j) := by
  intro hforever
  obtain ⟨late, hlate⟩ := htime ((run n).eng.t0 + (run n).eng.timeoutLatched)
  obtain ⟨m, hm, htaken⟩ := hpolls (max n late)
  have hnm : n ≤ m := (le_max_left n late).trans hm
  have hnow : (run late).env.now ≤ (run m).env.now := h.now_monotone ((le_max_right n late).trans hm)
  obtain ⟨hbusy, ht0, htimeout⟩ := hforever m hnm
  have hdue : (run m).eng.timeoutLatched ≤ (run m).env.now - (run m).eng.t0 := by
    rw [htimeout, ht0]
    exact Nat.le_sub_of_add_le' (hlate.trans hnow)
  have hidle : (run (m + 1)).eng.busy = false := h.idle_of_late_poll (htaken hbusy) hbusy hdue
  obtain ⟨hbusy', -⟩ := hforever (m + 1) (by omega)
  exact nomatch hidle.symm.trans hbusy'

end Follows

/-! ## Received bytes are published -/

/-- The reader is enabled in `t` and has accumulated all that it had in `s`. -/
def StillReading (s t : State) : Prop := readerEnabled t = true ∧ s.eng.acc <+: t.eng.acc

/-- The step after `run m` publishes what is accumulated, or leaves the reader stopped. -/
def PublishesOrStops (run : Nat → State) (m : Nat) : Prop :=
  ((run (m + 1)).eng.latest = (run m).eng.acc ∧ (run (m + 1)).eng.acc = []) ∨ readerEnabled (run (m + 1)) = false

theorem SameBlock.readerEnabled_eq {s t : State} (h : SameBlock s t) : readerEnabled t = readerEnabled s := by
  simp [readerEnabled, h.eng]

namespace Follows

variable {order : Nat → Event} {run : Nat → State} {n : Nat}

theorem stillReading_or_publishes (h : Follows order run) {s : State} {m : Nat} (hreading : StillReading s (run m)) :
    StillReading s (run (m + 1)) ∨ PublishesOrStops run m := by
  obtain ⟨henabled, hprefix⟩ := hreading
  obtain ⟨i, u, hsame, hmoves, -⟩ := h.moves m
  have hmove := hmoves.reads_on_or_publishes_or_stops (hsame.readerEnabled_eq.trans henabled)
  rw [hsame.eng] at hmove
  exact hmove.imp_left fun ⟨henabled', hprefix'⟩ => ⟨henabled', hprefix.trans hprefix'⟩

/-- A read with nothing pending empties a non-empty accumulation buffer. -/
theorem acc_of_quiet_read (h : Follows order run) {m k : Nat} (htakes : Takes order run m (.rdStep k))
    (henabled : readerEnabled (run m) = true) (hquiet : (run m).env.rxPending = []) (hacc : (run m).eng.acc ≠ []) :
    (run (m + 1)).eng.acc = [] := by
  obtain ⟨u, v, hsame, hexec, heng⟩ := h.of_takes htakes
  rw [← hsame.readerEnabled_eq] at henabled
  rw [← hsame.env] at hquiet
  rw [← hsame.eng] at hacc
  cases (execRdStep_of_silence henabled hquiet hacc).symm.trans hexec
  rw [heng]
  rfl

/-- Received bytes do not stay accumulated for ever: the next quiet read taken empties the buffer. -/
theorem not_reading_forever (h : Follows order run) (hreads : QuietReadsAreTaken order run)
    (hacc : (run n).eng.acc ≠ []) : ¬∀ j, n ≤ j → StillReading (run n) (run j) := by
  intro hforever
  obtain ⟨m, hm, htaken⟩ := hreads n
  obtain ⟨henabled, hprefix⟩ := hforever m hm
  obtain ⟨hquiet, k, htakes⟩ := htaken henabled
  have hempty : (run (m + 1)).eng.acc = [] := h.acc_of_quiet_read htakes henabled hquiet (hprefix.ne_nil hacc)
  obtain ⟨-, hprefix'⟩ := hforever (m + 1) (by omega)
  exact hprefix'.ne_nil hacc hempty

end Follows

/-! ## The obligations -/

/-- Settles O44: only R203 times a transaction out; past the deadline a poll ends the transaction either way; and
in a fair run no transaction is pending for ever, so some step is the first to end it. -/
theorem pendingTransactionEndsInTime : Obligations.PendingTransactionEndsInTime := by
  refine ⟨fun s t hpoll hreading htimedOut => ?_, fun s d hbusy hpast hlate => ?_,
    fun order run n hrun hpolls htime hbusy => ?_⟩
  · exact latest_and_deadline_of_timedOut hpoll hreading htimedOut
  · have hdue : s.eng.timeoutLatched ≤ s.env.now + d - s.eng.t0 :=
      hlate.trans (Nat.le_sub_of_add_le' (Nat.add_le_add_right hpast d))
    obtain ⟨u, hpoll, hended⟩ :=
      execTxnPoll_of_late (s := s.setEnv { s.env with now := s.env.now + d }) hbusy hdue
    exact ⟨_, u, rfl, hpoll, hended⟩
  · obtain ⟨m, hm, hpending, hends⟩ := exists_gives_way (P := fun j => StillPending (run n) (run j))
      (Q := EndsTransaction order run) ⟨hbusy, rfl, rfl⟩ (fun _ _ => hrun.stillPending_or_ends)
      (hrun.not_pending_forever hpolls htime)
    exact ⟨m, hm, fun j hj hj' => (hpending j hj hj').1, hends⟩

/-- Settles O47: the two silent reads; and in a run with quiet reads the buffer does not go on growing for ever, so some
step is the first to publish it or to stop the reader. -/
theorem readerPublishesAtSilence : Obligations.ReaderPublishesAtSilence := by
  refine ⟨fun s k hstarted hfault hquiet => ?_, fun order run n hrun hreads henabled hacc => ?_⟩
  · have henabled : readerEnabled s = true := readerEnabled_of_started hstarted hfault
    exact ⟨execRdStep_of_silence henabled hquiet, execRdStep_of_empty henabled hquiet⟩
  · obtain ⟨m, hm, hreading, hends⟩ := exists_gives_way (P := fun j => StillReading (run n) (run j))
      (Q := PublishesOrStops run) ⟨henabled, List.prefix_rfl⟩ (fun _ _ => hrun.stillReading_or_publishes)
      (hrun.not_reading_forever hreads hacc)
    exact ⟨m, hm, (hreading m hm (le_refl m)).2, hends⟩

/-- Settles O38: START's one update, then the completion. -/
theorem startSetsStarted : Obligations.StartSetsStarted :=
  fun s => ⟨_, rfl, complete_reports (s.setEng { s.eng with started := true }) _ _, rfl⟩

/-- Settles O39, by steps 3 to 5 of R200. -/
theorem transactionIsAccepted : Obligations.TransactionIsAccepted :=
  fun _ hfault hbusy => congrArg Host.Outcome.next (transaction_of_free hfault hbusy)

/-- Settles O40, by steps 1 and 2 of R200, in this order. -/
theorem transactionIsRefused : Obligations.TransactionIsRefused :=
  fun s => ⟨fun hfault => ⟨_, congrArg Host.Outcome.next (transaction_of_fault hfault), raise_failsWith s _⟩,
    fun hfault hbusy => ⟨_, congrArg Host.Outcome.next (transaction_of_busy hfault hbusy), raise_failsWith s _⟩⟩

/-- Settles O41: the case of R202. -/
theorem pollTakesPublishedBuffer : Obligations.PollTakesPublishedBuffer :=
  fun _ hbusy hdata => ⟨_, execTxnPoll_of_data hbusy hdata, complete_reports _ _ _, rfl, rfl⟩

/-- Settles O42: the case of R203. -/
theorem pollTimesOut : Obligations.PollTimesOut :=
  fun _ hbusy hdata hdue => ⟨_, execTxnPoll_of_due hbusy hdata hdue, complete_reports _ _ _, rfl, rfl⟩

/-- Settles O43: the case of R204. -/
theorem pollWaits : Obligations.PollWaits :=
  fun _ hbusy hdata hearly => execTxnPoll_of_early hbusy hdata hearly

/-- Settles O46: the count is `readCount`, and a prefix of that many bytes fits. -/
theorem readerAppendsPendingBytes : Obligations.ReaderAppendsPendingBytes := by
  intro s k hstarted hfault hpending hchunk
  obtain ⟨hone, hlen, hmax⟩ := readCount_allowed k hpending hchunk
  refine ⟨_, hone, hlen, hmax, readCount_of_allowed, readCount_of_ge hchunk, readCount_of_zero hpending,
    fun hfits => ?_⟩
  rw [← portRead_length hlen] at hfits
  exact execRdStep_of_fits (readerEnabled_of_started hstarted hfault) hpending (overflows_of_fits hfits)

/-- Settles O48: the count is `readCount`, and a prefix of that many bytes exceeds the bound. -/
theorem readerOverflowSetsFault : Obligations.ReaderOverflowSetsFault := by
  intro s k m hstarted hfault hpending hchunk hbound
  obtain ⟨hone, hlen, hmax⟩ := readCount_allowed k hpending hchunk
  refine ⟨_, hone, hlen, hmax, readCount_of_allowed, readCount_of_ge hchunk, readCount_of_zero hpending,
    fun hlong => ?_⟩
  rw [← portRead_length hlen] at hlong
  have hover := overflows_of_bound hbound hlong
  exact ⟨_, execRdStep_of_overflow (readerEnabled_of_started hstarted hfault) hpending hover, rfl⟩

/-- Settles O49: the first case of RD_STEP and of TXN_POLL. -/
theorem disabledStepsChangeNothing : Obligations.DisabledStepsChangeNothing :=
  fun _ _ => ⟨fun hdisabled => execRdStep_of_disabled (readerEnabled_of_stopped hdisabled), execTxnPoll_of_idle⟩

end Sys2Proof.Machine

/-! PROOF. DESERIALIZE. A payload cut into chunks of the fields' widths is decoded field by field (R236); what the decode
of each type of field makes of its chunk, and what that makes of the whole set; from these the statements about
DESERIALIZE and the two inbound sets' way back. -/

namespace Sys2Proof.Machine

/-! ## One field -/

/-- The chunk has the width of a field of this type, and `v` is what its decode makes of it (R236). -/
def FieldDecodes (n i : Nat) (ty : RegType) (chunk : Bytes) (v : BitVec 64) : Prop :=
  chunk.length = typeWidth ty ∧ decodeField n i ty chunk = .ok v

theorem SameValue.symm {f g : Format} {p q : Nat} (h : SameValue f p g q) : SameValue g q f p := by
  obtain ⟨hsign, ⟨hinf, hinf'⟩ | ⟨hfin, hfin', hmag⟩⟩ := h
  · exact ⟨hsign.symm, .inl ⟨hinf', hinf⟩⟩
  · exact ⟨hsign.symm, .inr ⟨hfin', hfin, hmag.symm⟩⟩

/-- A NaN has no value to share. -/
theorem SameValue.isNan_eq_false {f g : Format} {p q : Nat} (h : SameValue f p g q) : isNan g q = false := by
  rw [← Bool.not_eq_true, isNan_iff]
  obtain ⟨-, ⟨-, hinf⟩ | ⟨-, hfin, -⟩⟩ := h
  · exact ((isInf_iff _ _).mp hinf).not_gt
  · exact ((isFinite_iff _ _).mp hfin).not_gt

/-- Widening is an exact conversion, NaNs to NaNs (R142). -/
theorem converts_widen64 (bits : BitVec 64) (p : Nat) :
    Converts binary32 p binary64 (widen64 binary32 bits p).toNat := by
  cases hnan : isNan binary32 p with
  | true =>
    rw [widen64_of_isNan hnan]
    exact .inl ⟨hnan, isNan_nan64 bits⟩
  | false =>
    have hsame := widen64_sameValue (.inr rfl) bits hnan
    exact .inr ⟨hnan, hsame.isNan_eq_false, hsame⟩

section Fields

variable (n i : Nat)

/-- An unsigned field takes the value its bytes lay out (R134, R238). -/
theorem fieldDecodes_uint {m w : Nat} (hw : w ∈ [1, 2, 4]) (hm : m = 8 * w) (p : BitVec m) :
    FieldDecodes n i (.uint w) (leBytes w p.toNat) (p.setWidth 64) := by
  refine ⟨leBytes_length _ _, ?_⟩
  have hp : p.toNat < 256 ^ w := by
    rw [show 256 ^ w = 2 ^ m by rw [hm, Nat.pow_mul]]
    exact p.isLt
  rcases List.mem_cons.mp hw with rfl | hw
  · simp only [decodeField, if_true, leValue_leBytes_of_lt hp, BitVec.ofNat_toNat]
  · have hwide : p.toNat = (p.setWidth 64).toNat := by
      rw [BitVec.toNat_setWidth_of_le]
      simp at hw
      omega
    have hne : w ≠ 1 := by
      rintro rfl
      simp at hw
    simp only [decodeField, hne, if_false]
    rw [hwide] at hp ⊢
    exact decodeUint_leBytes hw hp

theorem fieldDecodes_byte (b : Byte) : FieldDecodes n i (.uint 1) [b] (b.setWidth 64) := by
  simpa [leBytes_succ] using fieldDecodes_uint n i (w := 1) (by decide) rfl b

/-- A float field takes the f64 of its chunk's binary32 value (R142). -/
theorem fieldDecodes_float (p : BitVec 32) :
    ∃ v, FieldDecodes n i (.float 4) (leBytes 4 p.toNat) v ∧ Converts binary32 p.toNat binary64 v.toNat :=
  ⟨_, ⟨leBytes_length _ _, decodeFloat_four _ p⟩, converts_widen64 _ _⟩

/-- A boolean field is false iff its byte is 0 (R145). -/
theorem fieldDecodes_bool (b : Byte) : FieldDecodes n i .bool [b] (if b = 0x00 then 0 else 1) := by
  refine ⟨rfl, ?_⟩
  by_cases hb : b = 0x00 <;> simp [decodeField, decodeBool, byteAt, boolValue, Except.map, hb]

/-- The meter-constant takes its chunk by either type (R232; decision D35). -/
theorem fieldDecodes_meter {s : State} {ty : RegType} (hty : IsMeterType s ty) (p : BitVec 32) :
    ∃ v, FieldDecodes n i ty (leBytes 4 p.toNat) v ∧ (s.cfg.meterType = .unsigned → v = p.setWidth 64) ∧
      (s.cfg.meterType = .float → Converts binary32 p.toNat binary64 v.toNat) := by
  rcases hty with ⟨hmeter, rfl⟩ | ⟨hmeter, rfl⟩
  · exact ⟨_, fieldDecodes_uint n i (w := 4) (by decide) rfl p, fun _ => rfl, by simp [hmeter]⟩
  · obtain ⟨v, hv, hconverts⟩ := fieldDecodes_float n i p
    exact ⟨v, hv, by simp [hmeter], fun _ => hconverts⟩

/-! ## The whole set -/

/-- Of every set of these types, the payload has the width, and `out` is what it is decoded to (R236). -/
def SetDecodes (n i : Nat) (tys : List RegType) (payload : Bytes) (out : RegSet) : Prop :=
  ∀ regs : RegSet, regs.map Reg.ty = tys → payload.length = setWidth regs ∧ deserializeFrom n i regs payload = .ok out

theorem setDecodes_nil : SetDecodes n i [] ([] : List Bytes).flatten [] := by
  intro regs hregs
  rw [List.map_eq_nil_iff.mp hregs]
  exact ⟨rfl, rfl⟩

variable {n i}

theorem setDecodes_cons {ty : RegType} {tys : List RegType} {b : Bytes} {bs : List Bytes} {v : BitVec 64}
    {out : RegSet} (hfield : FieldDecodes n i ty b v) (hrest : SetDecodes n (i + 1) tys bs.flatten out) :
    SetDecodes n i (ty :: tys) (b :: bs).flatten (⟨ty, v⟩ :: out) := by
  intro regs hregs
  obtain ⟨r, rest, rfl, rfl, htys⟩ := List.map_eq_cons_iff.mp hregs
  obtain ⟨hwidth, hdecode⟩ := hfield
  obtain ⟨hlength, hmore⟩ := hrest rest htys
  rw [List.flatten_cons]
  constructor
  · rw [List.length_append, hwidth, hlength, setWidth]
  · simp [deserializeFrom, List.take_left' hwidth, List.drop_left' hwidth, hdecode, hmore]

end Fields

/-! ## The instructions -/

section Instructions

variable {s : State} {set : SetId}

/-- The payload lengths of the three sets (R232 to R234). -/
def payloadWidth : SetId → Nat
  | .testConfig => 26
  | .sampling => 80
  | .errorSet => 13

theorem setWidth_eq_sum (regs : RegSet) : setWidth regs = ((regs.map Reg.ty).map typeWidth).sum := by
  induction regs with
  | nil => rfl
  | cons r rest ih => simp [setWidth, ih]

theorem layout_width (m : MeterType) (set : SetId) : ((layout m set).map typeWidth).sum = payloadWidth set := by
  cases m <;> cases set <;> decide

theorem exec_deserialize_of_length_ne (hlayout : SetsKeepLayout s) (h : s.args.inBuf.length ≠ payloadWidth set) :
    ∃ t, exec (.deserialize set) s = .next t ∧ FailsWith s t .registerLengthMismatch := by
  rw [← layout_width s.cfg.meterType, ← hlayout set, ← setWidth_eq_sum] at h
  exact ⟨_, if_pos h, raise_failsWith s _⟩

theorem exec_deserialize_of_setDecodes {tys : List RegType} {out : RegSet} (htypes : (s.regSet set).map Reg.ty = tys)
    (h : SetDecodes s.draws 0 tys s.args.inBuf out) :
    exec (.deserialize set) s = .next ((s.setRegSet set out).complete .ok {}) := by
  obtain ⟨hlength, hdecode⟩ := h _ htypes
  change execDeserialize set s = _
  simp [execDeserialize, hlength, hdecode]

theorem exec_serialize_of_ok {b : Bytes} (h : serializeFrom s.cfg s.draws 0 (s.regSet set) = .ok b) :
    exec (.serialize set) s = .next (s.complete .ok { outBuf := some b }) :=
  congrArg (fun r => Host.Outcome.next (s.completeBytes r)) h

end Instructions

/-- Settles O58: the length is tested first; else each field takes its own chunk. -/
theorem deserializeRefusesWrongLength : Obligations.DeserializeRefusesWrongLength := by
  intro s hlayout
  refine ⟨exec_deserialize_of_length_ne (set := .sampling) hlayout,
    exec_deserialize_of_length_ne (set := .errorSet) hlayout,
    exec_deserialize_of_length_ne (set := .testConfig) hlayout, ?_⟩
  intro ps es vr unit pv pc pf pq pm cycle hbuf
  obtain ⟨ty, hmeter, htypes⟩ := testConfig_types hlayout
  obtain ⟨voltage, hvoltage, hcv⟩ := fieldDecodes_float s.draws 3 pv
  obtain ⟨current, hcurrent, hcc⟩ := fieldDecodes_float s.draws 4 pc
  obtain ⟨factor, hfactor, hcf⟩ := fieldDecodes_float s.draws 5 pf
  obtain ⟨frequency, hfrequency, hcq⟩ := fieldDecodes_float s.draws 7 pq
  obtain ⟨meter, hchunk, hunsigned, hfloat⟩ := fieldDecodes_meter s.draws 8 hmeter pm
  have hchunks : s.args.inBuf = [[ps], [es], [vr], leBytes 4 pv.toNat, leBytes 4 pc.toNat, leBytes 4 pf.toNat, [unit],
      leBytes 4 pq.toNat, leBytes 4 pm.toNat, leBytes 2 cycle.toNat].flatten := by
    rw [hbuf]
    simp
  have hset := setDecodes_cons (fieldDecodes_byte s.draws 0 ps) <| setDecodes_cons (fieldDecodes_byte _ _ es) <|
    setDecodes_cons (fieldDecodes_byte _ _ vr) <| setDecodes_cons hvoltage <| setDecodes_cons hcurrent <|
    setDecodes_cons hfactor <| setDecodes_cons (fieldDecodes_byte _ _ unit) <| setDecodes_cons hfrequency <|
    setDecodes_cons hchunk <| setDecodes_cons (fieldDecodes_uint _ _ (w := 2) (by decide) rfl cycle) <|
    setDecodes_nil _ _
  rw [← hchunks] at hset
  exact ⟨_, voltage, current, factor, frequency, meter, exec_deserialize_of_setDecodes htypes hset,
    complete_reports _ _ _, rfl, htypes.symm, rfl, hcv, hcc, hcf, hcq, hunsigned, hfloat⟩

/-! ## The sampling set -/

/-- A float field that holds the f64 of a binary32 value (R142). -/
def HoldsWidened (r : Reg) (p : BitVec 32) : Prop :=
  r.ty = .float 4 ∧ Converts binary32 p.toNat binary64 r.value.toNat

/-- The bytes of binary32 values, in order, are decoded to fields that hold them. -/
theorem setDecodes_floats (n i : Nat) (ps : List (BitVec 32)) :
    ∃ out, SetDecodes n i (List.replicate ps.length (.float 4)) (ps.flatMap fun p => leBytes 4 p.toNat) out ∧
      List.Forall₂ HoldsWidened out ps := by
  induction ps generalizing i with
  | nil => exact ⟨[], setDecodes_nil n i, .nil⟩
  | cons p ps ih =>
    obtain ⟨v, hv, hconverts⟩ := fieldDecodes_float n i p
    obtain ⟨out, hout, hall⟩ := ih (i + 1)
    exact ⟨⟨.float 4, v⟩ :: out, setDecodes_cons hv hout, .cons ⟨rfl, hconverts⟩ hall⟩

/-- A widened value that is no NaN is encoded to the bytes it came from (R143). -/
theorem encodeField_of_holdsWidened (cfg : Config) (n i : Nat) {r : Reg} {p : BitVec 32} (h : HoldsWidened r p)
    (hnan : isNan binary32 p.toNat = false) : encodeField cfg n i r = .ok (leBytes 4 p.toNat) := by
  obtain ⟨ty, v⟩ := r
  obtain ⟨rfl, ⟨hnan', -⟩ | ⟨-, -, hsame⟩⟩ := h
  · simp [hnan] at hnan'
  · exact encodeFloat_four_of_some (narrow32_of_sameValue hsame.symm)

theorem serializeFrom_of_holdsWidened (cfg : Config) (n i : Nat) {regs : RegSet} {ps : List (BitVec 32)}
    (h : List.Forall₂ HoldsWidened regs ps) (hnan : ∀ p ∈ ps, isNan binary32 p.toNat = false) :
    serializeFrom cfg n i regs = .ok (ps.flatMap fun p => leBytes 4 p.toNat) := by
  induction h generalizing i with
  | nil => rfl
  | cons hr _ ih =>
    rw [List.forall_mem_cons] at hnan
    obtain ⟨hp, hps⟩ := hnan
    exact serializeFrom_cons n i (encodeField_of_holdsWidened cfg n i hr hp) (ih (i + 1) hps)

/-- Settles O59: twenty fields widened exactly, and what widening keeps, narrowing gives back. -/
theorem samplingDeserializesAndSerializesBack : Obligations.SamplingDeserializesAndSerializesBack := by
  intro s ps hlayout hps hbuf
  obtain ⟨out, hset, hall⟩ := setDecodes_floats s.draws 0 ps
  rw [← hbuf, hps] at hset
  exact ⟨_, _, exec_deserialize_of_setDecodes (hlayout .sampling) hset, complete_reports _ _ _, rfl, hall, fun hnan =>
    ⟨exec_serialize_of_ok (serializeFrom_of_holdsWidened s.cfg (s.draws + 1) 0 hall hnan), complete_reports _ _ _,
      hbuf.symm⟩⟩

/-- Settles O60: the boolean's chunk and the three floats', decoded and encoded in order. -/
theorem errorSetDeserializes : Obligations.ErrorSetDeserializes := by
  intro s hlayout
  have htypes : s.errorSet.map Reg.ty = [.bool, .float 4, .float 4, .float 4] := hlayout .errorSet
  constructor
  · intro b p1 p2 p3 hbuf
    obtain ⟨v1, hv1, hc1⟩ := fieldDecodes_float s.draws 1 p1
    obtain ⟨v2, hv2, hc2⟩ := fieldDecodes_float s.draws 2 p2
    obtain ⟨v3, hv3, hc3⟩ := fieldDecodes_float s.draws 3 p3
    have hchunks : s.args.inBuf =
        [[b], leBytes 4 p1.toNat, leBytes 4 p2.toNat, leBytes 4 p3.toNat].flatten := by
      rw [hbuf]
      simp
    have hset := setDecodes_cons (fieldDecodes_bool s.draws 0 b) <| setDecodes_cons hv1 <| setDecodes_cons hv2 <|
      setDecodes_cons hv3 <| setDecodes_nil _ _
    rw [← hchunks] at hset
    exact ⟨_, v1, v2, v3, exec_deserialize_of_setDecodes htypes hset, complete_reports _ _ _, rfl, rfl, hc1, hc2, hc3⟩
  · intro flag v1 v2 v3 hvalues hfits
    have hregs := regSet_eq_zipWith s.errorSet
    rw [hvalues, htypes] at hregs
    rw [hregs] at hfits
    simp only [List.zipWith, List.forall_mem_cons, regOverflows_float] at hfits hregs
    obtain ⟨-, hv1, hv2, hv3, -⟩ := hfits
    obtain ⟨p1, hp1, hn1⟩ := encodeField_float s.draws 1 hv1
    obtain ⟨p2, hp2, hn2⟩ := encodeField_float s.draws 2 hv2
    obtain ⟨p3, hp3, hn3⟩ := encodeField_float s.draws 3 hv3
    have hserial : serializeFrom s.cfg s.draws 0 s.errorSet = .ok
        [encodeBool (flag.getLsbD 0), leBytes 4 p1.toNat, leBytes 4 p2.toNat, leBytes 4 p3.toNat].flatten := by
      rw [hregs]
      exact serializeFrom_cons _ _ rfl <| serializeFrom_cons _ _ hp1 <| serializeFrom_cons _ _ hp2 <|
        serializeFrom_cons _ _ hp3 <| serializeFrom_nil _ _ _
    refine ⟨_, p1, p2, p3, exec_serialize_of_ok hserial, complete_reports _ _ _, complete_sameButResults _ _ _, ?_,
      hn1, hn2, hn3⟩
    simp [encodeBool, boolByte]

end Sys2Proof.Machine

/-! PROOF. That every instruction is answered by a next state; and that the fetch rejects exactly a scheduled opcode
byte outside the constants of R98. From these the statement about what stops the machine. -/

namespace Sys2Proof.Machine

/-- A wrong length and a failing field are results of DESERIALIZE (R236, R259). -/
theorem execDeserialize_answers (set : SetId) (s : State) : ∃ t, execDeserialize set s = .next t := by
  unfold execDeserialize
  split
  · exact ⟨_, rfl⟩
  · split <;> exact ⟨_, rfl⟩

/-- Failures are results (R250, R267, R268). All but three instructions have one answer whatever the state; DESERIALIZE,
TXN_POLL and RD_STEP have one in each of their cases. -/
theorem exec_answers (i : Instr) (s : State) : ∃ t, exec i s = .next t := by
  cases i with
  | deserialize set => exact execDeserialize_answers set s
  | txnPoll => rcases execTxnPoll_cases s with ⟨-, h⟩ | ⟨-, -, h⟩ | ⟨-, -, -, h⟩ | ⟨-, -, -, h⟩ <;> exact ⟨_, h⟩
  | rdStep k =>
    rcases execRdStep_cases k s with ⟨-, h⟩ | ⟨-, -, -, h⟩ | ⟨-, -, -, h⟩ | ⟨-, -, -, h⟩ | ⟨-, -, -, h⟩ <;>
      exact ⟨_, h⟩
  | _ => exact ⟨_, rfl⟩

theorem fetchEvent_reject_iff {e : Event} {t : State} {b : Byte} :
    fetchEvent e t = .reject b ↔ e = .opcode b ∧ decodeOpcode t.cfg.opcReadbackError b = none := by
  constructor
  · intro h
    rcases fetchEvent_cases e t with ⟨_, -, hf⟩ | ⟨_, _, -, hf⟩ | ⟨_, -, hf⟩ | ⟨_, _, -, -, hf⟩ | ⟨b', he, hd, hf⟩ |
      ⟨_, -, hf⟩ | ⟨-, -, hf⟩ | ⟨_, _, -, -, hf⟩ <;> rw [hf] at h <;> cases h
    exact ⟨he, hd⟩
  · rintro ⟨rfl, hd⟩
    simp [fetchEvent, hd]

theorem autonomous_ne_opcode (n : Nat) (b : Byte) : autonomous n ≠ .opcode b := by
  rcases autonomous_cases n with h | ⟨i, h, -⟩ <;> simp [h]

/-- No free agent requests an opcode byte (R66), so a rejected byte was scheduled. -/
theorem fetch_reject_iff {s : State} {b : Byte} :
    fetch s = .reject b ↔
      (∃ rest, s.schedule = .opcode b :: rest) ∧ decodeOpcode s.cfg.opcReadbackError b = none := by
  rw [fetch, fetchEvent_reject_iff]
  rcases nextEvent_cases s with ⟨hs, hn⟩ | ⟨e, rest, hs, hn⟩
  · simp [hs, hn, autonomous_ne_opcode]
  · simp [hs, hn]

theorem step_of_reject {s : State} {b : Byte} (h : fetch s = .reject b) : step s = .refused (.noSuchCode b) := by
  rw [step, h]

theorem step_answers {s : State} (h : ∀ b, fetch s ≠ .reject b) : ∃ t, step s = .next t := by
  unfold step
  cases hf : fetch s with
  | host t => exact ⟨t, rfl⟩
  | reject b => exact absurd hf (h b)
  | run i t =>
    obtain ⟨u, hu⟩ := exec_answers i t
    exact ⟨continueExchange u, by simp only [hu, settle_next]⟩

/-- Settles O2: every instruction answers, so a step stops only where the fetch rejects. -/
theorem onlyUnknownOpcodesStopTheMachine : Obligations.OnlyUnknownOpcodesStopTheMachine := by
  refine ⟨exec_answers, fun s => ⟨fun hknown => step_answers fun b hrej => ?_, fun b rest hs hd => ?_⟩⟩
  · obtain ⟨⟨rest, hs⟩, hd⟩ := fetch_reject_iff.mp hrej
    exact hknown b rest hs hd
  · exact step_of_reject (fetch_reject_iff.mpr ⟨⟨rest, hs⟩, hd⟩)

end Sys2Proof.Machine

/-! PROOF. RESET from any state. -/

namespace Sys2Proof.Machine

/-- Settles O6: RESET has no guard, and its writes (R291) reach the engine, `tx_stream`, the CRC
registers, the result ports, the EXCHANGE flag and the draw counter alone. -/
theorem resetEventClearsEngine : Obligations.ResetEventClearsEngine :=
  fun s => ⟨_, (rfl : exec .reset s = execReset s), rfl⟩

end Sys2Proof.Machine
